-- ==== Sys2Proof/Word.lean ====
section
/-! DEFINITION. The machine's two word types and the names of its registers (10_state.md rules R20, R24, R25). -/

namespace Sys2Proof

/-- The addressable unit (00_scope.md rule R5). -/
abbrev Byte := BitVec 8

/-- Register pairs, SP, PC and addresses (00_scope.md rule R5). -/
abbrev Word := BitVec 16

/-- The 8-bit registers a register index can select (10_state.md rule R24). Index 6 selects no register but
the byte of memory at HL, and F has no index, so neither is here. -/
inductive Reg8 where
  | b | c | d | e | h | l | a
  deriving DecidableEq, Repr

/-- The register pairs a pair index can select (10_state.md rule R25). -/
inductive RegPair where
  | bc | de | hl | sp
  deriving DecidableEq, Repr

end Sys2Proof
end

