-- ==== Sys2Proof/Config.lean ====
section
/-! DEFINITION. The parameters of the block (00_scope.md rule R5) and the free values: values the spec leaves
unspecified, as constants with no body, about which nothing can be proved. -/

namespace Sys2Proof.Config

/-- FILL: what every stub, every absent-cartridge read and every out-of-range cartridge read returns (R5). -/
def fill : Byte := 0xFF

/-- WRAM_SIZE in bytes (R5, 10_state.md R32). -/
def wramSize : Nat := 8192

/-- HRAM_SIZE in bytes (R5, 10_state.md R33). -/
def hramSize : Nat := 127

/-- The default of PC_INIT (R5). -/
def pcInitDefault : Word := 0x0100

/-- The part of the parameter CYCLES that the source leaves open: one cost per row of 70_reset_and_hazards.md
rule R180 marked G. The rows the source fixes (JP a16, INVALID and, through it, PREFIX CB) are no parameter. -/
structure CycleTable where
  nop : Nat
  ldRrD16 : Nat
  incR : Nat
  decR : Nat
  incAtHl : Nat
  ldRD8 : Nat
  ldAtHlD8 : Nat
  addAR : Nat
  addAAtHl : Nat
  subR : Nat
  subAtHl : Nat
  xorA : Nat
  halt : Nat
  ldRR : Nat
  ldRAtHl : Nat
  ldAtHlR : Nat
  ldAAtRr : Nat
  ldAtRrA : Nat
  ldAAtA16 : Nat
  ldAtA16A : Nat
  deriving DecidableEq, Repr

/-- FREE VALUE: the trace operand slot after a one-byte instruction, which the spec calls unspecified
(60_exceptions.md rule R160, 92_eei_decisions.md D15); log entry 8. -/
opaque unusedOperand : Nat → Word

/-! FREE VALUES: the trace after an instruction that overwrote its own bytes, whose `opcode`, `length`, `bytes` and
`operand` may be anything (93_implementation_defined.md U6); log entry 9. -/

opaque overwrittenOpcode : Nat → Byte

opaque overwrittenLength : Nat → Nat

opaque overwrittenBytes : Nat → List Byte

opaque overwrittenOperand : Nat → Word

/-- FREE VALUE: `instr_len` after the EEI's reset, which the spec calls unspecified (10_state.md rule R28),
within the bound 0 to 3 that 10_state.md section 1 gives the field; log entry 6. -/
opaque unspecifiedInstrLen : Nat → Fin 4

end Sys2Proof.Config
end

