-- ==== Sys2Proof/Machine/Cycles.lean ====
section
/-! DEFINITION. The cycle costs of 70_reset_and_hazards.md rule R180: the two the source gives, and the defaults
of the parameter CYCLES. Timing only: no rule reads a cost except the step, which accumulates it (rule R177). -/

namespace Sys2Proof.Machine

/-- JP a16 costs 16: the source's own value (R180, mark S). -/
def jpCycles : Nat := 16

/-- INVALID costs 4: the source's own value (R180, mark S); PREFIX CB reports the same cost (R144, D13). -/
def invalidCycles : Nat := 4

/-- The defaults of the parameter CYCLES (R180, mark G: general knowledge, not in the source); log entry 7. -/
def defaultCycles : Config.CycleTable where
  nop := 4
  ldRrD16 := 12
  incR := 4
  decR := 4
  incAtHl := 12
  ldRD8 := 8
  ldAtHlD8 := 12
  addAR := 4
  addAAtHl := 8
  subR := 4
  subAtHl := 8
  xorA := 4
  halt := 4
  ldRR := 4
  ldRAtHl := 8
  ldAtHlR := 8
  ldAAtRr := 8
  ldAtRrA := 8
  ldAAtA16 := 16
  ldAtA16A := 16

end Sys2Proof.Machine
end

