-- ==== Sys2Proof/Syntax.lean ====
section
/-! DEFINITION. The instructions: one constructor per row of spec/opcode_table.json, the 17 that carry an operand first,
then the rest, each group in the table's order (30_encoding.md rules R86, R87, R89, R90), and one constructor for INVALID
at a byte that a narrower decode table leaves unassigned (92_eei_decisions.md D1; log entry 1). An operand is the
immediate the encoding carries, at its width (rule R85). The docstring of a constructor is the assembly of
30_encoding.md rule R92. -/

namespace Sys2Proof

/-- One constructor per row of the opcode table, and `invalidWithdrawn`. -/
inductive Instr where
  /-- LD BC,d16 (R120) -/
  | ldBcD16 (d16 : Word)
  /-- LD B,d8 (R121) -/
  | ldBD8 (d8 : Byte)
  /-- LD C,d8 (R121) -/
  | ldCD8 (d8 : Byte)
  /-- LD DE,d16 (R120) -/
  | ldDeD16 (d16 : Word)
  /-- LD D,d8 (R121) -/
  | ldDD8 (d8 : Byte)
  /-- LD E,d8 (R121) -/
  | ldED8 (d8 : Byte)
  /-- LD HL,d16 (R120) -/
  | ldHlD16 (d16 : Word)
  /-- LD H,d8 (R121) -/
  | ldHD8 (d8 : Byte)
  /-- LD L,d8 (R121) -/
  | ldLD8 (d8 : Byte)
  /-- LD SP,d16 (R120) -/
  | ldSpD16 (d16 : Word)
  /-- LD (HL),d8 (R122) -/
  | ldAtHlD8 (d8 : Byte)
  /-- LD A,d8 (R121) -/
  | ldAD8 (d8 : Byte)
  /-- JP a16 (R142) -/
  | jpA16 (a16 : Word)
  /-- PREFIX CB (R144) -/
  | prefixCb (cbop : Byte)
  /-- LD (a16),A (R130) -/
  | ldAtA16A (a16 : Word)
  /-- LD A,(a16) (R129) -/
  | ldAAtA16 (a16 : Word)
  /-- INVALID, secondary table, reached through PREFIX CB (R145) -/
  | invalidCbCbop (cbop : Byte)
  /-- INVALID, at an opcode byte that a narrower decode table withdraws from its shape (R146) -/
  | invalidWithdrawn (op : Byte)
  /-- NOP (R141) -/
  | nop
  /-- LD (BC),A (R128) -/
  | ldAtBcA
  /-- INVALID, opcode 0x03 (R146) -/
  | invalid03
  /-- INC B (R106) -/
  | incB
  /-- DEC B (R107) -/
  | decB
  /-- INVALID, opcode 0x07 (R146) -/
  | invalid07
  /-- INVALID, opcode 0x08 (R146) -/
  | invalid08
  /-- INVALID, opcode 0x09 (R146) -/
  | invalid09
  /-- LD A,(BC) (R127) -/
  | ldAAtBc
  /-- INVALID, opcode 0x0B (R146) -/
  | invalid0B
  /-- INC C (R106) -/
  | incC
  /-- DEC C (R107) -/
  | decC
  /-- INVALID, opcode 0x0F (R146) -/
  | invalid0F
  /-- INVALID, opcode 0x10 (R146) -/
  | invalid10
  /-- LD (DE),A (R128) -/
  | ldAtDeA
  /-- INVALID, opcode 0x13 (R146) -/
  | invalid13
  /-- INC D (R106) -/
  | incD
  /-- DEC D (R107) -/
  | decD
  /-- INVALID, opcode 0x17 (R146) -/
  | invalid17
  /-- INVALID, opcode 0x18 (R146) -/
  | invalid18
  /-- INVALID, opcode 0x19 (R146) -/
  | invalid19
  /-- LD A,(DE) (R127) -/
  | ldAAtDe
  /-- INVALID, opcode 0x1B (R146) -/
  | invalid1B
  /-- INC E (R106) -/
  | incE
  /-- DEC E (R107) -/
  | decE
  /-- INVALID, opcode 0x1F (R146) -/
  | invalid1F
  /-- INVALID, opcode 0x20 (R146) -/
  | invalid20
  /-- INVALID, opcode 0x22 (R146) -/
  | invalid22
  /-- INVALID, opcode 0x23 (R146) -/
  | invalid23
  /-- INC H (R106) -/
  | incH
  /-- DEC H (R107) -/
  | decH
  /-- INVALID, opcode 0x27 (R146) -/
  | invalid27
  /-- INVALID, opcode 0x28 (R146) -/
  | invalid28
  /-- INVALID, opcode 0x29 (R146) -/
  | invalid29
  /-- INVALID, opcode 0x2A (R146) -/
  | invalid2A
  /-- INVALID, opcode 0x2B (R146) -/
  | invalid2B
  /-- INC L (R106) -/
  | incL
  /-- DEC L (R107) -/
  | decL
  /-- INVALID, opcode 0x2F (R146) -/
  | invalid2F
  /-- INVALID, opcode 0x30 (R146) -/
  | invalid30
  /-- INVALID, opcode 0x32 (R146) -/
  | invalid32
  /-- INVALID, opcode 0x33 (R146) -/
  | invalid33
  /-- INC (HL) (R108) -/
  | incAtHl
  /-- INVALID, opcode 0x35 (R146) -/
  | invalid35
  /-- INVALID, opcode 0x37 (R146) -/
  | invalid37
  /-- INVALID, opcode 0x38 (R146) -/
  | invalid38
  /-- INVALID, opcode 0x39 (R146) -/
  | invalid39
  /-- INVALID, opcode 0x3A (R146) -/
  | invalid3A
  /-- INVALID, opcode 0x3B (R146) -/
  | invalid3B
  /-- INC A (R106) -/
  | incA
  /-- DEC A (R107) -/
  | decA
  /-- INVALID, opcode 0x3F (R146) -/
  | invalid3F
  /-- LD B,B (R123) -/
  | ldBB
  /-- LD B,C (R123) -/
  | ldBC
  /-- LD B,D (R123) -/
  | ldBD
  /-- LD B,E (R123) -/
  | ldBE
  /-- LD B,H (R123) -/
  | ldBH
  /-- LD B,L (R123) -/
  | ldBL
  /-- LD B,(HL) (R124) -/
  | ldBAtHl
  /-- LD B,A (R123) -/
  | ldBA
  /-- LD C,B (R123) -/
  | ldCB
  /-- LD C,C (R123) -/
  | ldCC
  /-- LD C,D (R123) -/
  | ldCD
  /-- LD C,E (R123) -/
  | ldCE
  /-- LD C,H (R123) -/
  | ldCH
  /-- LD C,L (R123) -/
  | ldCL
  /-- LD C,(HL) (R124) -/
  | ldCAtHl
  /-- LD C,A (R123) -/
  | ldCA
  /-- LD D,B (R123) -/
  | ldDB
  /-- LD D,C (R123) -/
  | ldDC
  /-- LD D,D (R123) -/
  | ldDD
  /-- LD D,E (R123) -/
  | ldDE
  /-- LD D,H (R123) -/
  | ldDH
  /-- LD D,L (R123) -/
  | ldDL
  /-- LD D,(HL) (R124) -/
  | ldDAtHl
  /-- LD D,A (R123) -/
  | ldDA
  /-- LD E,B (R123) -/
  | ldEB
  /-- LD E,C (R123) -/
  | ldEC
  /-- LD E,D (R123) -/
  | ldED
  /-- LD E,E (R123) -/
  | ldEE
  /-- LD E,H (R123) -/
  | ldEH
  /-- LD E,L (R123) -/
  | ldEL
  /-- LD E,(HL) (R124) -/
  | ldEAtHl
  /-- LD E,A (R123) -/
  | ldEA
  /-- LD H,B (R123) -/
  | ldHB
  /-- LD H,C (R123) -/
  | ldHC
  /-- LD H,D (R123) -/
  | ldHD
  /-- LD H,E (R123) -/
  | ldHE
  /-- LD H,H (R123) -/
  | ldHH
  /-- LD H,L (R123) -/
  | ldHL
  /-- LD H,(HL) (R124) -/
  | ldHAtHl
  /-- LD H,A (R123) -/
  | ldHA
  /-- LD L,B (R123) -/
  | ldLB
  /-- LD L,C (R123) -/
  | ldLC
  /-- LD L,D (R123) -/
  | ldLD
  /-- LD L,E (R123) -/
  | ldLE
  /-- LD L,H (R123) -/
  | ldLH
  /-- LD L,L (R123) -/
  | ldLL
  /-- LD L,(HL) (R124) -/
  | ldLAtHl
  /-- LD L,A (R123) -/
  | ldLA
  /-- LD (HL),B (R125) -/
  | ldAtHlB
  /-- LD (HL),C (R125) -/
  | ldAtHlC
  /-- LD (HL),D (R125) -/
  | ldAtHlD
  /-- LD (HL),E (R125) -/
  | ldAtHlE
  /-- LD (HL),H (R125) -/
  | ldAtHlH
  /-- LD (HL),L (R125) -/
  | ldAtHlL
  /-- HALT (R143) -/
  | halt
  /-- LD (HL),A (R125) -/
  | ldAtHlA
  /-- LD A,B (R123) -/
  | ldAB
  /-- LD A,C (R123) -/
  | ldAC
  /-- LD A,D (R123) -/
  | ldAD
  /-- LD A,E (R123) -/
  | ldAE
  /-- LD A,H (R123) -/
  | ldAH
  /-- LD A,L (R123) -/
  | ldAL
  /-- LD A,(HL) (R124) -/
  | ldAAtHl
  /-- LD A,A (R123) -/
  | ldAA
  /-- ADD A,B (R109) -/
  | addAB
  /-- ADD A,C (R109) -/
  | addAC
  /-- ADD A,D (R109) -/
  | addAD
  /-- ADD A,E (R109) -/
  | addAE
  /-- ADD A,H (R109) -/
  | addAH
  /-- ADD A,L (R109) -/
  | addAL
  /-- ADD A,(HL) (R110) -/
  | addAAtHl
  /-- ADD A,A (R109) -/
  | addAA
  /-- INVALID, opcode 0x88 (R146) -/
  | invalid88
  /-- INVALID, opcode 0x89 (R146) -/
  | invalid89
  /-- INVALID, opcode 0x8A (R146) -/
  | invalid8A
  /-- INVALID, opcode 0x8B (R146) -/
  | invalid8B
  /-- INVALID, opcode 0x8C (R146) -/
  | invalid8C
  /-- INVALID, opcode 0x8D (R146) -/
  | invalid8D
  /-- INVALID, opcode 0x8E (R146) -/
  | invalid8E
  /-- INVALID, opcode 0x8F (R146) -/
  | invalid8F
  /-- SUB B (R111) -/
  | subB
  /-- SUB C (R111) -/
  | subC
  /-- SUB D (R111) -/
  | subD
  /-- SUB E (R111) -/
  | subE
  /-- SUB H (R111) -/
  | subH
  /-- SUB L (R111) -/
  | subL
  /-- SUB (HL) (R112) -/
  | subAtHl
  /-- SUB A (R111) -/
  | subA
  /-- INVALID, opcode 0x98 (R146) -/
  | invalid98
  /-- INVALID, opcode 0x99 (R146) -/
  | invalid99
  /-- INVALID, opcode 0x9A (R146) -/
  | invalid9A
  /-- INVALID, opcode 0x9B (R146) -/
  | invalid9B
  /-- INVALID, opcode 0x9C (R146) -/
  | invalid9C
  /-- INVALID, opcode 0x9D (R146) -/
  | invalid9D
  /-- INVALID, opcode 0x9E (R146) -/
  | invalid9E
  /-- INVALID, opcode 0x9F (R146) -/
  | invalid9F
  /-- INVALID, opcode 0xA0 (R146) -/
  | invalidA0
  /-- INVALID, opcode 0xA1 (R146) -/
  | invalidA1
  /-- INVALID, opcode 0xA2 (R146) -/
  | invalidA2
  /-- INVALID, opcode 0xA3 (R146) -/
  | invalidA3
  /-- INVALID, opcode 0xA4 (R146) -/
  | invalidA4
  /-- INVALID, opcode 0xA5 (R146) -/
  | invalidA5
  /-- INVALID, opcode 0xA6 (R146) -/
  | invalidA6
  /-- INVALID, opcode 0xA7 (R146) -/
  | invalidA7
  /-- INVALID, opcode 0xA8 (R146) -/
  | invalidA8
  /-- INVALID, opcode 0xA9 (R146) -/
  | invalidA9
  /-- INVALID, opcode 0xAA (R146) -/
  | invalidAA
  /-- INVALID, opcode 0xAB (R146) -/
  | invalidAB
  /-- INVALID, opcode 0xAC (R146) -/
  | invalidAC
  /-- INVALID, opcode 0xAD (R146) -/
  | invalidAD
  /-- INVALID, opcode 0xAE (R146) -/
  | invalidAE
  /-- XOR A (R113) -/
  | xorA
  /-- INVALID, opcode 0xB0 (R146) -/
  | invalidB0
  /-- INVALID, opcode 0xB1 (R146) -/
  | invalidB1
  /-- INVALID, opcode 0xB2 (R146) -/
  | invalidB2
  /-- INVALID, opcode 0xB3 (R146) -/
  | invalidB3
  /-- INVALID, opcode 0xB4 (R146) -/
  | invalidB4
  /-- INVALID, opcode 0xB5 (R146) -/
  | invalidB5
  /-- INVALID, opcode 0xB6 (R146) -/
  | invalidB6
  /-- INVALID, opcode 0xB7 (R146) -/
  | invalidB7
  /-- INVALID, opcode 0xB8 (R146) -/
  | invalidB8
  /-- INVALID, opcode 0xB9 (R146) -/
  | invalidB9
  /-- INVALID, opcode 0xBA (R146) -/
  | invalidBA
  /-- INVALID, opcode 0xBB (R146) -/
  | invalidBB
  /-- INVALID, opcode 0xBC (R146) -/
  | invalidBC
  /-- INVALID, opcode 0xBD (R146) -/
  | invalidBD
  /-- INVALID, opcode 0xBE (R146) -/
  | invalidBE
  /-- INVALID, opcode 0xBF (R146) -/
  | invalidBF
  /-- INVALID, opcode 0xC0 (R146) -/
  | invalidC0
  /-- INVALID, opcode 0xC1 (R146) -/
  | invalidC1
  /-- INVALID, opcode 0xC2 (R146) -/
  | invalidC2
  /-- INVALID, opcode 0xC4 (R146) -/
  | invalidC4
  /-- INVALID, opcode 0xC5 (R146) -/
  | invalidC5
  /-- INVALID, opcode 0xC6 (R146) -/
  | invalidC6
  /-- INVALID, opcode 0xC7 (R146) -/
  | invalidC7
  /-- INVALID, opcode 0xC8 (R146) -/
  | invalidC8
  /-- INVALID, opcode 0xC9 (R146) -/
  | invalidC9
  /-- INVALID, opcode 0xCA (R146) -/
  | invalidCA
  /-- INVALID, opcode 0xCC (R146) -/
  | invalidCC
  /-- INVALID, opcode 0xCD (R146) -/
  | invalidCD
  /-- INVALID, opcode 0xCE (R146) -/
  | invalidCE
  /-- INVALID, opcode 0xCF (R146) -/
  | invalidCF
  /-- INVALID, opcode 0xD0 (R146) -/
  | invalidD0
  /-- INVALID, opcode 0xD1 (R146) -/
  | invalidD1
  /-- INVALID, opcode 0xD2 (R146) -/
  | invalidD2
  /-- INVALID, opcode 0xD3 (R146) -/
  | invalidD3
  /-- INVALID, opcode 0xD4 (R146) -/
  | invalidD4
  /-- INVALID, opcode 0xD5 (R146) -/
  | invalidD5
  /-- INVALID, opcode 0xD6 (R146) -/
  | invalidD6
  /-- INVALID, opcode 0xD7 (R146) -/
  | invalidD7
  /-- INVALID, opcode 0xD8 (R146) -/
  | invalidD8
  /-- INVALID, opcode 0xD9 (R146) -/
  | invalidD9
  /-- INVALID, opcode 0xDA (R146) -/
  | invalidDA
  /-- INVALID, opcode 0xDB (R146) -/
  | invalidDB
  /-- INVALID, opcode 0xDC (R146) -/
  | invalidDC
  /-- INVALID, opcode 0xDD (R146) -/
  | invalidDD
  /-- INVALID, opcode 0xDE (R146) -/
  | invalidDE
  /-- INVALID, opcode 0xDF (R146) -/
  | invalidDF
  /-- INVALID, opcode 0xE0 (R146) -/
  | invalidE0
  /-- INVALID, opcode 0xE1 (R146) -/
  | invalidE1
  /-- INVALID, opcode 0xE2 (R146) -/
  | invalidE2
  /-- INVALID, opcode 0xE3 (R146) -/
  | invalidE3
  /-- INVALID, opcode 0xE4 (R146) -/
  | invalidE4
  /-- INVALID, opcode 0xE5 (R146) -/
  | invalidE5
  /-- INVALID, opcode 0xE6 (R146) -/
  | invalidE6
  /-- INVALID, opcode 0xE7 (R146) -/
  | invalidE7
  /-- INVALID, opcode 0xE8 (R146) -/
  | invalidE8
  /-- INVALID, opcode 0xE9 (R146) -/
  | invalidE9
  /-- INVALID, opcode 0xEB (R146) -/
  | invalidEB
  /-- INVALID, opcode 0xEC (R146) -/
  | invalidEC
  /-- INVALID, opcode 0xED (R146) -/
  | invalidED
  /-- INVALID, opcode 0xEE (R146) -/
  | invalidEE
  /-- INVALID, opcode 0xEF (R146) -/
  | invalidEF
  /-- INVALID, opcode 0xF0 (R146) -/
  | invalidF0
  /-- INVALID, opcode 0xF1 (R146) -/
  | invalidF1
  /-- INVALID, opcode 0xF2 (R146) -/
  | invalidF2
  /-- INVALID, opcode 0xF3 (R146) -/
  | invalidF3
  /-- INVALID, opcode 0xF4 (R146) -/
  | invalidF4
  /-- INVALID, opcode 0xF5 (R146) -/
  | invalidF5
  /-- INVALID, opcode 0xF6 (R146) -/
  | invalidF6
  /-- INVALID, opcode 0xF7 (R146) -/
  | invalidF7
  /-- INVALID, opcode 0xF8 (R146) -/
  | invalidF8
  /-- INVALID, opcode 0xF9 (R146) -/
  | invalidF9
  /-- INVALID, opcode 0xFB (R146) -/
  | invalidFB
  /-- INVALID, opcode 0xFC (R146) -/
  | invalidFC
  /-- INVALID, opcode 0xFD (R146) -/
  | invalidFD
  /-- INVALID, opcode 0xFE (R146) -/
  | invalidFE
  /-- INVALID, opcode 0xFF (R146) -/
  | invalidFF
  deriving DecidableEq, Repr

end Sys2Proof
end

