-- ==== Sys2Proof/Machine/State.lean ====
section
/-! DEFINITION. The machine's state as plain data (10_state.md section 1), the ways a step can stop, and the state
after reset (10_state.md rule R36, 70_reset_and_hazards.md rules R170, R171). -/

namespace Sys2Proof.Machine

/-- A RAM array as sparse data: (index, byte) pairs, indices strictly rising, no byte equal to what an unlisted
index reads as. -/
abbrev Memory := List Host.Cell

/-- What an unlisted index reads as: reset fills WRAM and HRAM with 0x00 (10_state.md rules R32, R33). -/
def Memory.unlisted : Byte := 0x00

/-- The canonical form from index `lo` up. -/
def Memory.wfFrom : Nat → Memory → Bool
  | _, [] => true
  | lo, (k, v) :: m => decide (lo ≤ k) && decide (v ≠ Memory.unlisted) && Memory.wfFrom (k + 1) m

/-- The canonical form: strictly rising indices and no listed byte equal to the unlisted one. -/
def Memory.wf (m : Memory) : Bool := Memory.wfFrom 0 m

/-- Every listed index is one the array has. -/
def Memory.within (size : Nat) (m : Memory) : Bool := m.all fun cell => decide (cell.1 < size)

/-- What the memory bus holds (20_memory.md rule R50: a bus access depends on this and on nothing else). -/
structure Bus where
  /-- Work RAM, 8192 bytes by index (10_state.md rule R32). -/
  wram : Memory
  /-- High RAM, 127 bytes by index (10_state.md rule R33). -/
  hram : Memory
  /-- The interrupt-enable byte at 0xFFFF, inert storage (10_state.md rule R34). -/
  ie : Byte
  /-- The cartridge image, or none (10_state.md rule R35). -/
  cart : Option (List Byte)
  deriving DecidableEq, Repr

/-- The trace snapshot without its text field, which 10_state.md rule R29 excludes from a model. -/
structure Trace where
  pc : Word
  opcode : Byte
  operand : Word
  length : Nat
  bytes : List Byte
  deriving DecidableEq, Repr

/-- The cleared trace (60_exceptions.md rule R160, 92_eei_decisions.md D15). -/
def Trace.cleared : Trace := { pc := 0, opcode := 0, operand := 0, length := 0, bytes := [] }

/-- A diagnostic event (60_exceptions.md rule R162). -/
inductive Diag where
  /-- An INVALID opcode of the main table: the address of the opcode and the opcode. -/
  | invalidOpcode (pc0 : Word) (op : Byte)
  /-- An INVALID entry of the secondary table: the address of the prefix byte and the second opcode byte. -/
  | invalidOpcodeCb (pc0 : Word) (cbop : Byte)
  deriving DecidableEq, Repr

/-- What a step reports to the EEI (60_exceptions.md rule R161). -/
structure Report where
  opcode : Byte
  cycles : Nat
  deriving DecidableEq, Repr

/-- The whole state of the block. -/
structure State where
  /-- A is the high byte, F the low byte (10_state.md rules R20, R21). -/
  af : Word
  bc : Word
  de : Word
  hl : Word
  sp : Word
  /-- Between steps, the address of the next opcode byte (10_state.md rule R27). -/
  pc : Word
  /-- `instr_len` (10_state.md rule R28). -/
  instrLen : Nat
  /-- `instr_cycles` (10_state.md rule R28). -/
  instrCycles : Nat
  /-- `total_cycles`, unbounded (10_state.md rule R30). -/
  totalCycles : Nat
  /-- The debug snapshot (10_state.md rule R29). -/
  trace : Trace
  /-- WRAM, HRAM, IE and CART. -/
  bus : Bus
  /-- The last step's report; none before the first step (60_exceptions.md rule R161). -/
  report : Option Report
  /-- The diagnostics emitted since reset, newest first (60_exceptions.md rule R162); log entry 11. -/
  diags : List Diag
  /-- The parameter CYCLES, which no step changes (00_scope.md rule R5); log entry 7. -/
  cycles : Config.CycleTable
  /-- The decode table, by the opcode bytes it leaves INVALID where 30_encoding.md rule R86 assigns them: configuration
  (92_eei_decisions.md D1), fixed at construction, which no step and no reset changes (10_state.md rule R31); log entry
  1. -/
  withdrawn : List Byte
  /-- The model's own counter of free values drawn; log entry 10. -/
  freeCount : Nat
  deriving DecidableEq, Repr

/-- The faults of the hardware: there are none, so no constructor and nobody to raise one. Safe: "No
exceptions/aborts are used" (60_exceptions.md rule R150), and the step is total (42_control.md rule R140). -/
inductive Fault where
  deriving DecidableEq, Repr

/-- Why a step can have no meaning. -/
inductive Refusal where
  /-- Raised by `exec` alone, for an instruction that has no meaning yet; safe. No arm of `exec` uses it. -/
  | notModelled (mnemonic : String)
  deriving DecidableEq, Repr

/-- What a meaning answers. -/
abbrev Result := Host.Outcome State Fault Refusal

/-- The parameters a run is launched with (00_scope.md rule R5), and the value of `instr_len`, which reset leaves
unspecified (10_state.md rule R28). -/
structure Params where
  cart : Option (List Byte)
  pcInit : Word
  ieInit : Byte
  cycles : Config.CycleTable
  withdrawn : List Byte
  instrLenInit : Nat
  deriving DecidableEq, Repr

/-- The launch state of a run: construction with CART, IE_INIT, CYCLES and the decode table, then reset with PC_INIT
(70_reset_and_hazards.md rules R170, R171, R173; 10_state.md rule R36). -/
def State.launch (p : Params) : State where
  af := 0x01B0
  bc := 0x0013
  de := 0x00D8
  hl := 0x014D
  sp := 0xFFFE
  pc := p.pcInit
  instrLen := p.instrLenInit
  instrCycles := 0
  totalCycles := 0
  trace := Trace.cleared
  bus := { wram := [], hram := [], ie := p.ieInit, cart := p.cart }
  report := none
  diags := []
  cycles := p.cycles
  withdrawn := p.withdrawn
  freeCount := 0

/-- The parameters `State.reset` takes: no cartridge (log 4), PC_INIT at its default (log 5), IE_INIT 0x00
(log 3), CYCLES at its defaults (log 7), the decode table of 30_encoding.md rule R86 (log 1), `instr_len` 0 (log 6).
DESIGN CHOICE. -/
def Params.default : Params where
  cart := none
  pcInit := Config.pcInitDefault
  ieInit := 0x00
  cycles := defaultCycles
  withdrawn := []
  instrLenInit := 0

/-- The machine right after reset, at the default parameters. -/
def State.reset : State := State.launch Params.default

end Sys2Proof.Machine
end

