-- ==== Sys2Proof/Machine/Ops.lean ====
section
/-! DEFINITION. The named operations every meaning is built from: the RAM arrays, the address decoder and the bus
(20_memory.md rules R50 to R60), the end of an instruction (10_state.md rules R27, R28) and the diagnostic event
(60_exceptions.md rule R162). The hardware takes no exception and returns from none (60_exceptions.md rules R150,
R153, R154), so there is no such operation. -/

namespace Sys2Proof.Machine

/-- Read a RAM array. -/
def Memory.read : Memory → Nat → Byte
  | [], _ => Memory.unlisted
  | (k₀, v₀) :: m, k => if k₀ = k then v₀ else Memory.read m k

/-- Write a RAM array, keeping the canonical form. -/
def Memory.write : Memory → Nat → Byte → Memory
  | [], k, v => if v = Memory.unlisted then [] else [(k, v)]
  | (k₀, v₀) :: m, k, v =>
    if k < k₀ then (if v = Memory.unlisted then (k₀, v₀) :: m else (k, v) :: (k₀, v₀) :: m)
    else if k = k₀ then (if v = Memory.unlisted then m else (k, v) :: m)
    else (k₀, v₀) :: Memory.write m k v

/-- The handlers of the address map (20_memory.md rule R51), with the index the handler uses. -/
inductive Handler where
  | cartridge (index : Nat)
  | videoRam
  | externalRam
  | workRam (index : Nat)
  | objectMemory
  | prohibited
  | ioRegisters
  | highRam (index : Nat)
  | interruptEnable
  deriving DecidableEq, Repr

/-- The address decoder, in the priority order of 20_memory.md rule R51. -/
def handlerOf (addr : Word) : Handler :=
  let a := addr.toNat
  if a ≤ 0x7FFF then .cartridge a
  else if a ≤ 0x9FFF then .videoRam
  else if a ≤ 0xBFFF then .externalRam
  else if a ≤ 0xDFFF then .workRam (a - 0xC000)
  else if a ≤ 0xFDFF then .workRam ((a - 0xE000) % Config.wramSize)
  else if a ≤ 0xFE9F then .objectMemory
  else if a ≤ 0xFEFF then .prohibited
  else if a ≤ 0xFF7F then .ioRegisters
  else if a ≤ 0xFFFE then .highRam (a - 0xFF80)
  else .interruptEnable

/-- The cartridge's read: the byte at the index, or the fill value (20_memory.md rule R52). -/
def cartRead (cart : Option (List Byte)) (index : Nat) : Byte :=
  match cart with
  | none => Config.fill
  | some bytes => bytes.getD index Config.fill

/-- The bus read (20_memory.md rules R50 to R60). -/
def Bus.read (b : Bus) (addr : Word) : Byte :=
  match handlerOf addr with
  | .cartridge i => cartRead b.cart i
  | .videoRam => Config.fill
  | .externalRam => Config.fill
  | .workRam i => Memory.read b.wram i
  | .objectMemory => Config.fill
  | .prohibited => Config.fill
  | .ioRegisters => Config.fill
  | .highRam i => Memory.read b.hram i
  | .interruptEnable => b.ie

/-- The bus write (20_memory.md rules R50 to R60): dropped everywhere but in WRAM, HRAM and IE. -/
def Bus.write (b : Bus) (addr : Word) (v : Byte) : Bus :=
  match handlerOf addr with
  | .cartridge _ => b
  | .videoRam => b
  | .externalRam => b
  | .workRam i => { b with wram := Memory.write b.wram i v }
  | .objectMemory => b
  | .prohibited => b
  | .ioRegisters => b
  | .highRam i => { b with hram := Memory.write b.hram i v }
  | .interruptEnable => { b with ie := v }

/-- `MemRead(addr, 1)` (00_scope.md rule R10). -/
def memRead (addr : Word) (s : State) : Byte := s.bus.read addr

/-- `MemWrite(addr, 1, v)` (00_scope.md rule R10). -/
def memWrite (addr : Word) (v : Byte) (s : State) : State := { s with bus := s.bus.write addr v }

/-- `Diag(kind, info)` (00_scope.md rule R10, 60_exceptions.md rule R162). -/
def emitDiag (d : Diag) (s : State) : State := { s with diags := d :: s.diags }

/-- The end of every instruction: the new PC and the two report fields (00_scope.md rule R10, 10_state.md rule R28). -/
def finish (pc : Word) (len cycles : Nat) (s : State) : State :=
  { s with pc := pc, instrLen := len, instrCycles := cycles }

/-- The end of an instruction that is no jump and not HALT: PC moves past its `len` bytes, mod 65536
(10_state.md rule R27). A meaning runs with PC at the opcode byte, so this is the PC the fetches leave. -/
def retire (len cycles : Nat) (s : State) : State :=
  finish (s.pc + BitVec.ofNat 16 len) len cycles s

end Sys2Proof.Machine
end

