-- ==== Sys2Proof/Machine/Operands.lean ====
section
/-! DEFINITION. The operand forms: the 8-bit halves, the register pairs and the addressing modes (10_state.md rules
R20 to R26, 41_loads.md rule R131). -/

namespace Sys2Proof.Machine

/-- Bits 15:8 of a pair (10_state.md rule R20). -/
def hiByte (w : Word) : Byte := w.extractLsb' 8 8

/-- Bits 7:0 of a pair (10_state.md rule R20). -/
def loByte (w : Word) : Byte := w.extractLsb' 0 8

/-- Writing the high half leaves the low half (10_state.md rule R20). -/
def setHi (w : Word) (v : Byte) : Word := v ++ loByte w

/-- Writing the low half leaves the high half (10_state.md rule R20). -/
def setLo (w : Word) (v : Byte) : Word := hiByte w ++ v

/-- `r8[i]` (00_scope.md rule R9). -/
def readReg : Reg8 → State → Byte
  | .b, s => hiByte s.bc
  | .c, s => loByte s.bc
  | .d, s => hiByte s.de
  | .e, s => loByte s.de
  | .h, s => hiByte s.hl
  | .l, s => loByte s.hl
  | .a, s => hiByte s.af

/-- `r8[i] <- v` (00_scope.md rule R9). -/
def writeReg : Reg8 → Byte → State → State
  | .b, v, s => { s with bc := setHi s.bc v }
  | .c, v, s => { s with bc := setLo s.bc v }
  | .d, v, s => { s with de := setHi s.de v }
  | .e, v, s => { s with de := setLo s.de v }
  | .h, v, s => { s with hl := setHi s.hl v }
  | .l, v, s => { s with hl := setLo s.hl v }
  | .a, v, s => { s with af := setHi s.af v }

/-- `rp[p]` (00_scope.md rule R9). -/
def readPair : RegPair → State → Word
  | .bc, s => s.bc
  | .de, s => s.de
  | .hl, s => s.hl
  | .sp, s => s.sp

/-- `rp[p] <- v` (00_scope.md rule R9). -/
def writePair : RegPair → Word → State → State
  | .bc, v, s => { s with bc := v }
  | .de, v, s => { s with de := v }
  | .hl, v, s => { s with hl := v }
  | .sp, v, s => { s with sp := v }

/-- The addressing modes that name a byte of memory (41_loads.md rule R131). -/
inductive AddrMode where
  | atHl
  | atBc
  | atDe
  | absolute (a16 : Word)
  deriving DecidableEq, Repr

/-- The effective address: always the unmodified 16-bit value (41_loads.md rule R131). -/
def effAddr : AddrMode → State → Word
  | .atHl, s => s.hl
  | .atBc, s => s.bc
  | .atDe, s => s.de
  | .absolute a16, _ => a16

end Sys2Proof.Machine
end

