-- ==== Sys2Proof/Machine/Flags.lean ====
section
/-! DEFINITION. The flag byte and the five flag helpers (10_state.md rules R21, R22; 40_alu8.md rules R100 to R105).
Values are compared as exact unsigned integers (00_scope.md rule R8). -/

namespace Sys2Proof.Machine

/-- The flag byte F (10_state.md rule R20). -/
def readF (s : State) : Byte := loByte s.af

/-- Writing F as a whole masks out its low nibble (10_state.md rule R21). No instruction does it. -/
def writeF (v : Byte) (s : State) : State := { s with af := setLo s.af (v &&& 0xF0) }

/-- `flag.Z` (10_state.md rule R22). -/
def flagZ (s : State) : Bool := (readF s).getLsbD 7

/-- `flag.N` (10_state.md rule R22). -/
def flagN (s : State) : Bool := (readF s).getLsbD 6

/-- `flag.H` (10_state.md rule R22). -/
def flagH (s : State) : Bool := (readF s).getLsbD 5

/-- `flag.C` (10_state.md rule R22). -/
def flagC (s : State) : Bool := (readF s).getLsbD 4

/-- F with the four flags in bits 7:4 and the low nibble as it was: a flag write touches no other bit
(10_state.md rule R22); log entry 27. -/
def flagByte (z n h c : Bool) (f : Byte) : Byte :=
  BitVec.ofBool z ++ BitVec.ofBool n ++ BitVec.ofBool h ++ BitVec.ofBool c ++ f.extractLsb' 0 4

/-- `SetZNHC(z, n, h, c)` (00_scope.md rule R10). -/
def setZNHC (z n h c : Bool) (s : State) : State :=
  { s with af := setLo s.af (flagByte z n h c (readF s)) }

/-- `SetZNH(z, n, h)`: C is kept (00_scope.md rule R10). -/
def setZNH (z n h : Bool) (s : State) : State := setZNHC z n h (flagC s) s

/-- Bits 3:0 of a byte as a number (00_scope.md rule R7). -/
def lowNibble (v : Byte) : Nat := v.toNat % 16

/-- Increment8 (40_alu8.md rule R101). -/
def increment8 (v : Byte) (s : State) : State :=
  setZNH ((v.toNat + 1) % 256 == 0) false (lowNibble v == 0xF) s

/-- Decrement8 (40_alu8.md rule R102). -/
def decrement8 (v : Byte) (s : State) : State :=
  setZNH ((v.toNat + 255) % 256 == 0) true (lowNibble v == 0x0) s

/-- Add8 (40_alu8.md rule R103). -/
def add8 (a b : Byte) (s : State) : State :=
  let wide := a.toNat + b.toNat
  setZNHC (wide % 256 == 0) false (decide (lowNibble a + lowNibble b > 0xF)) (decide (wide > 0xFF)) s

/-- Subtract8 (40_alu8.md rule R104). -/
def subtract8 (a b : Byte) (s : State) : State :=
  setZNHC ((a.toNat + 256 - b.toNat) % 256 == 0) true (decide (lowNibble a < lowNibble b))
    (decide (a.toNat < b.toNat)) s

/-- Logic8 (40_alu8.md rule R105). -/
def logic8 (res : Byte) (h : Bool) (s : State) : State :=
  setZNHC (res == 0) false h false s

end Sys2Proof.Machine
end

