-- ==== Sys2Proof/Machine/Transfer.lean ====
section
/-! DEFINITION. The data movements shared by the loads, the stores and the arithmetic (41_loads.md). Each ends its
instruction: operands are read from the state before any result is written, and the instruction's own bytes were read
before that (20_memory.md rule R69). -/

namespace Sys2Proof.Machine

/-- The byte of memory an addressing mode names. -/
def readAt (m : AddrMode) (s : State) : Byte := memRead (effAddr m s) s

/-- An 8-bit register receives a byte. -/
def setReg (r : Reg8) (v : Byte) (len cycles : Nat) (s : State) : State :=
  retire len cycles (writeReg r v s)

/-- A register pair receives a word. -/
def setPair (p : RegPair) (v : Word) (len cycles : Nat) (s : State) : State :=
  retire len cycles (writePair p v s)

/-- A load: the register receives the byte at the address the mode gives in the state before the load. -/
def loadFrom (r : Reg8) (m : AddrMode) (len cycles : Nat) (s : State) : State :=
  setReg r (readAt m s) len cycles s

/-- A store: the byte goes to the address the mode gives. -/
def storeTo (m : AddrMode) (v : Byte) (len cycles : Nat) (s : State) : State :=
  retire len cycles (memWrite (effAddr m s) v s)

end Sys2Proof.Machine
end

