-- ==== Sys2Proof/Machine/Alu.lean ====
section
/-! DEFINITION. 8-bit arithmetic and logic (40_alu8.md rules R106 to R113): the shared operations, then one meaning per
instruction. Every flag goes through a helper of Flags.lean (rule R100). -/

namespace Sys2Proof.Machine

/-- INC r (40_alu8.md rule R106). -/
def incReg (y : Reg8) (s : State) : State :=
  retire 1 s.cycles.incR (increment8 (readReg y s) (writeReg y (readReg y s + 1) s))

/-- DEC r (40_alu8.md rule R107). -/
def decReg (y : Reg8) (s : State) : State :=
  retire 1 s.cycles.decR (decrement8 (readReg y s) (writeReg y (readReg y s - 1) s))

/-- INC (HL): the flags come from the byte read, whether or not the write takes effect (40_alu8.md rule R108). -/
def incMem (m : AddrMode) (s : State) : State :=
  retire 1 s.cycles.incAtHl (increment8 (readAt m s) (memWrite (effAddr m s) (readAt m s + 1) s))

/-- ADD A with the operand `b` (40_alu8.md rules R109, R110). -/
def addToA (b : Byte) (cycles : Nat) (s : State) : State :=
  retire 1 cycles (add8 (readReg .a s) b (writeReg .a (readReg .a s + b) s))

/-- SUB with the operand `b` (40_alu8.md rules R111, R112). -/
def subFromA (b : Byte) (cycles : Nat) (s : State) : State :=
  retire 1 cycles (subtract8 (readReg .a s) b (writeReg .a (readReg .a s - b) s))

/-- XOR A (40_alu8.md rule R113). -/
def xorAWithA (s : State) : State :=
  let res := readReg .a s ^^^ readReg .a s
  retire 1 s.cycles.xorA (logic8 res false (writeReg .a res s))

/-- INC B (40_alu8.md rule R106). -/
def execIncB (s : State) : Result :=
  .next (incReg .b s)

/-- DEC B (40_alu8.md rule R107). -/
def execDecB (s : State) : Result :=
  .next (decReg .b s)

/-- INC C (40_alu8.md rule R106). -/
def execIncC (s : State) : Result :=
  .next (incReg .c s)

/-- DEC C (40_alu8.md rule R107). -/
def execDecC (s : State) : Result :=
  .next (decReg .c s)

/-- INC D (40_alu8.md rule R106). -/
def execIncD (s : State) : Result :=
  .next (incReg .d s)

/-- DEC D (40_alu8.md rule R107). -/
def execDecD (s : State) : Result :=
  .next (decReg .d s)

/-- INC E (40_alu8.md rule R106). -/
def execIncE (s : State) : Result :=
  .next (incReg .e s)

/-- DEC E (40_alu8.md rule R107). -/
def execDecE (s : State) : Result :=
  .next (decReg .e s)

/-- INC H (40_alu8.md rule R106). -/
def execIncH (s : State) : Result :=
  .next (incReg .h s)

/-- DEC H (40_alu8.md rule R107). -/
def execDecH (s : State) : Result :=
  .next (decReg .h s)

/-- INC L (40_alu8.md rule R106). -/
def execIncL (s : State) : Result :=
  .next (incReg .l s)

/-- DEC L (40_alu8.md rule R107). -/
def execDecL (s : State) : Result :=
  .next (decReg .l s)

/-- INC (HL) (40_alu8.md rule R108). -/
def execIncAtHl (s : State) : Result :=
  .next (incMem .atHl s)

/-- INC A (40_alu8.md rule R106). -/
def execIncA (s : State) : Result :=
  .next (incReg .a s)

/-- DEC A (40_alu8.md rule R107). -/
def execDecA (s : State) : Result :=
  .next (decReg .a s)

/-- ADD A,B (40_alu8.md rule R109). -/
def execAddAB (s : State) : Result :=
  .next (addToA (readReg .b s) s.cycles.addAR s)

/-- ADD A,C (40_alu8.md rule R109). -/
def execAddAC (s : State) : Result :=
  .next (addToA (readReg .c s) s.cycles.addAR s)

/-- ADD A,D (40_alu8.md rule R109). -/
def execAddAD (s : State) : Result :=
  .next (addToA (readReg .d s) s.cycles.addAR s)

/-- ADD A,E (40_alu8.md rule R109). -/
def execAddAE (s : State) : Result :=
  .next (addToA (readReg .e s) s.cycles.addAR s)

/-- ADD A,H (40_alu8.md rule R109). -/
def execAddAH (s : State) : Result :=
  .next (addToA (readReg .h s) s.cycles.addAR s)

/-- ADD A,L (40_alu8.md rule R109). -/
def execAddAL (s : State) : Result :=
  .next (addToA (readReg .l s) s.cycles.addAR s)

/-- ADD A,(HL) (40_alu8.md rule R110). -/
def execAddAAtHl (s : State) : Result :=
  .next (addToA (readAt .atHl s) s.cycles.addAAtHl s)

/-- ADD A,A (40_alu8.md rule R109). -/
def execAddAA (s : State) : Result :=
  .next (addToA (readReg .a s) s.cycles.addAR s)

/-- SUB B (40_alu8.md rule R111). -/
def execSubB (s : State) : Result :=
  .next (subFromA (readReg .b s) s.cycles.subR s)

/-- SUB C (40_alu8.md rule R111). -/
def execSubC (s : State) : Result :=
  .next (subFromA (readReg .c s) s.cycles.subR s)

/-- SUB D (40_alu8.md rule R111). -/
def execSubD (s : State) : Result :=
  .next (subFromA (readReg .d s) s.cycles.subR s)

/-- SUB E (40_alu8.md rule R111). -/
def execSubE (s : State) : Result :=
  .next (subFromA (readReg .e s) s.cycles.subR s)

/-- SUB H (40_alu8.md rule R111). -/
def execSubH (s : State) : Result :=
  .next (subFromA (readReg .h s) s.cycles.subR s)

/-- SUB L (40_alu8.md rule R111). -/
def execSubL (s : State) : Result :=
  .next (subFromA (readReg .l s) s.cycles.subR s)

/-- SUB (HL) (40_alu8.md rule R112). -/
def execSubAtHl (s : State) : Result :=
  .next (subFromA (readAt .atHl s) s.cycles.subAtHl s)

/-- SUB A (40_alu8.md rule R111). -/
def execSubA (s : State) : Result :=
  .next (subFromA (readReg .a s) s.cycles.subR s)

/-- XOR A (40_alu8.md rule R113). -/
def execXorA (s : State) : Result :=
  .next (xorAWithA s)

end Sys2Proof.Machine
end

