-- ==== Sys2Proof/Machine/Control.lean ====
section
/-! DEFINITION. NOP, JP a16, HALT, PREFIX CB and the INVALID entry of the secondary table (42_control.md rules R141 to
R145): one meaning per instruction. -/

namespace Sys2Proof.Machine

/-- PREFIX CB and the entry it redispatches to: the diagnostic and the cost of the secondary entry (42_control.md rule
R145), and the two bytes consumed (rule R144). -/
def invalidCb (cbop : Byte) (s : State) : State :=
  retire 2 invalidCycles (emitDiag (.invalidOpcodeCb s.pc cbop) s)

/-- NOP (42_control.md rule R141). -/
def execNop (s : State) : Result :=
  .next (retire 1 s.cycles.nop s)

/-- HALT (42_control.md rule R143). -/
def execHalt (s : State) : Result :=
  .next (finish s.pc 1 s.cycles.halt s)

/-- JP a16 (42_control.md rule R142). -/
def execJpA16 (a16 : Word) (s : State) : Result :=
  .next (finish a16 3 jpCycles s)

/-- PREFIX CB (42_control.md rule R144). -/
def execPrefixCb (cbop : Byte) (s : State) : Result :=
  .next (invalidCb cbop s)

/-- The INVALID entry of the secondary table: the two bytes 0xCB, `cbop` (42_control.md rule R145). -/
def execInvalidCbCbop (cbop : Byte) (s : State) : Result :=
  .next (invalidCb cbop s)

end Sys2Proof.Machine
end

