-- ==== Sys2Proof/Machine/Invalid.lean ====
section
/-! DEFINITION. The 139 INVALID opcodes of the main table (42_control.md rule R146, 30_encoding.md rule R89): defined
one-byte instructions that change no register, flag or memory byte and emit a diagnostic. One meaning per opcode, and one
for INVALID at a byte that a narrower table withdraws (log entry 1). -/

namespace Sys2Proof.Machine

/-- INVALID, main table (42_control.md rule R146). -/
def invalidMain (op : Byte) (s : State) : State :=
  retire 1 invalidCycles (emitDiag (.invalidOpcode s.pc op) s)

/-- INVALID, opcode 0x03 (42_control.md rule R146). -/
def execInvalid03 (s : State) : Result :=
  .next (invalidMain 0x03 s)

/-- INVALID, opcode 0x07 (42_control.md rule R146). -/
def execInvalid07 (s : State) : Result :=
  .next (invalidMain 0x07 s)

/-- INVALID, opcode 0x08 (42_control.md rule R146). -/
def execInvalid08 (s : State) : Result :=
  .next (invalidMain 0x08 s)

/-- INVALID, opcode 0x09 (42_control.md rule R146). -/
def execInvalid09 (s : State) : Result :=
  .next (invalidMain 0x09 s)

/-- INVALID, opcode 0x0B (42_control.md rule R146). -/
def execInvalid0B (s : State) : Result :=
  .next (invalidMain 0x0B s)

/-- INVALID, opcode 0x0F (42_control.md rule R146). -/
def execInvalid0F (s : State) : Result :=
  .next (invalidMain 0x0F s)

/-- INVALID, opcode 0x10 (42_control.md rule R146). -/
def execInvalid10 (s : State) : Result :=
  .next (invalidMain 0x10 s)

/-- INVALID, opcode 0x13 (42_control.md rule R146). -/
def execInvalid13 (s : State) : Result :=
  .next (invalidMain 0x13 s)

/-- INVALID, opcode 0x17 (42_control.md rule R146). -/
def execInvalid17 (s : State) : Result :=
  .next (invalidMain 0x17 s)

/-- INVALID, opcode 0x18 (42_control.md rule R146). -/
def execInvalid18 (s : State) : Result :=
  .next (invalidMain 0x18 s)

/-- INVALID, opcode 0x19 (42_control.md rule R146). -/
def execInvalid19 (s : State) : Result :=
  .next (invalidMain 0x19 s)

/-- INVALID, opcode 0x1B (42_control.md rule R146). -/
def execInvalid1B (s : State) : Result :=
  .next (invalidMain 0x1B s)

/-- INVALID, opcode 0x1F (42_control.md rule R146). -/
def execInvalid1F (s : State) : Result :=
  .next (invalidMain 0x1F s)

/-- INVALID, opcode 0x20 (42_control.md rule R146). -/
def execInvalid20 (s : State) : Result :=
  .next (invalidMain 0x20 s)

/-- INVALID, opcode 0x22 (42_control.md rule R146). -/
def execInvalid22 (s : State) : Result :=
  .next (invalidMain 0x22 s)

/-- INVALID, opcode 0x23 (42_control.md rule R146). -/
def execInvalid23 (s : State) : Result :=
  .next (invalidMain 0x23 s)

/-- INVALID, opcode 0x27 (42_control.md rule R146). -/
def execInvalid27 (s : State) : Result :=
  .next (invalidMain 0x27 s)

/-- INVALID, opcode 0x28 (42_control.md rule R146). -/
def execInvalid28 (s : State) : Result :=
  .next (invalidMain 0x28 s)

/-- INVALID, opcode 0x29 (42_control.md rule R146). -/
def execInvalid29 (s : State) : Result :=
  .next (invalidMain 0x29 s)

/-- INVALID, opcode 0x2A (42_control.md rule R146). -/
def execInvalid2A (s : State) : Result :=
  .next (invalidMain 0x2A s)

/-- INVALID, opcode 0x2B (42_control.md rule R146). -/
def execInvalid2B (s : State) : Result :=
  .next (invalidMain 0x2B s)

/-- INVALID, opcode 0x2F (42_control.md rule R146). -/
def execInvalid2F (s : State) : Result :=
  .next (invalidMain 0x2F s)

/-- INVALID, opcode 0x30 (42_control.md rule R146). -/
def execInvalid30 (s : State) : Result :=
  .next (invalidMain 0x30 s)

/-- INVALID, opcode 0x32 (42_control.md rule R146). -/
def execInvalid32 (s : State) : Result :=
  .next (invalidMain 0x32 s)

/-- INVALID, opcode 0x33 (42_control.md rule R146). -/
def execInvalid33 (s : State) : Result :=
  .next (invalidMain 0x33 s)

/-- INVALID, opcode 0x35 (42_control.md rule R146). -/
def execInvalid35 (s : State) : Result :=
  .next (invalidMain 0x35 s)

/-- INVALID, opcode 0x37 (42_control.md rule R146). -/
def execInvalid37 (s : State) : Result :=
  .next (invalidMain 0x37 s)

/-- INVALID, opcode 0x38 (42_control.md rule R146). -/
def execInvalid38 (s : State) : Result :=
  .next (invalidMain 0x38 s)

/-- INVALID, opcode 0x39 (42_control.md rule R146). -/
def execInvalid39 (s : State) : Result :=
  .next (invalidMain 0x39 s)

/-- INVALID, opcode 0x3A (42_control.md rule R146). -/
def execInvalid3A (s : State) : Result :=
  .next (invalidMain 0x3A s)

/-- INVALID, opcode 0x3B (42_control.md rule R146). -/
def execInvalid3B (s : State) : Result :=
  .next (invalidMain 0x3B s)

/-- INVALID, opcode 0x3F (42_control.md rule R146). -/
def execInvalid3F (s : State) : Result :=
  .next (invalidMain 0x3F s)

/-- INVALID, opcode 0x88 (42_control.md rule R146). -/
def execInvalid88 (s : State) : Result :=
  .next (invalidMain 0x88 s)

/-- INVALID, opcode 0x89 (42_control.md rule R146). -/
def execInvalid89 (s : State) : Result :=
  .next (invalidMain 0x89 s)

/-- INVALID, opcode 0x8A (42_control.md rule R146). -/
def execInvalid8A (s : State) : Result :=
  .next (invalidMain 0x8A s)

/-- INVALID, opcode 0x8B (42_control.md rule R146). -/
def execInvalid8B (s : State) : Result :=
  .next (invalidMain 0x8B s)

/-- INVALID, opcode 0x8C (42_control.md rule R146). -/
def execInvalid8C (s : State) : Result :=
  .next (invalidMain 0x8C s)

/-- INVALID, opcode 0x8D (42_control.md rule R146). -/
def execInvalid8D (s : State) : Result :=
  .next (invalidMain 0x8D s)

/-- INVALID, opcode 0x8E (42_control.md rule R146). -/
def execInvalid8E (s : State) : Result :=
  .next (invalidMain 0x8E s)

/-- INVALID, opcode 0x8F (42_control.md rule R146). -/
def execInvalid8F (s : State) : Result :=
  .next (invalidMain 0x8F s)

/-- INVALID, opcode 0x98 (42_control.md rule R146). -/
def execInvalid98 (s : State) : Result :=
  .next (invalidMain 0x98 s)

/-- INVALID, opcode 0x99 (42_control.md rule R146). -/
def execInvalid99 (s : State) : Result :=
  .next (invalidMain 0x99 s)

/-- INVALID, opcode 0x9A (42_control.md rule R146). -/
def execInvalid9A (s : State) : Result :=
  .next (invalidMain 0x9A s)

/-- INVALID, opcode 0x9B (42_control.md rule R146). -/
def execInvalid9B (s : State) : Result :=
  .next (invalidMain 0x9B s)

/-- INVALID, opcode 0x9C (42_control.md rule R146). -/
def execInvalid9C (s : State) : Result :=
  .next (invalidMain 0x9C s)

/-- INVALID, opcode 0x9D (42_control.md rule R146). -/
def execInvalid9D (s : State) : Result :=
  .next (invalidMain 0x9D s)

/-- INVALID, opcode 0x9E (42_control.md rule R146). -/
def execInvalid9E (s : State) : Result :=
  .next (invalidMain 0x9E s)

/-- INVALID, opcode 0x9F (42_control.md rule R146). -/
def execInvalid9F (s : State) : Result :=
  .next (invalidMain 0x9F s)

/-- INVALID, opcode 0xA0 (42_control.md rule R146). -/
def execInvalidA0 (s : State) : Result :=
  .next (invalidMain 0xA0 s)

/-- INVALID, opcode 0xA1 (42_control.md rule R146). -/
def execInvalidA1 (s : State) : Result :=
  .next (invalidMain 0xA1 s)

/-- INVALID, opcode 0xA2 (42_control.md rule R146). -/
def execInvalidA2 (s : State) : Result :=
  .next (invalidMain 0xA2 s)

/-- INVALID, opcode 0xA3 (42_control.md rule R146). -/
def execInvalidA3 (s : State) : Result :=
  .next (invalidMain 0xA3 s)

/-- INVALID, opcode 0xA4 (42_control.md rule R146). -/
def execInvalidA4 (s : State) : Result :=
  .next (invalidMain 0xA4 s)

/-- INVALID, opcode 0xA5 (42_control.md rule R146). -/
def execInvalidA5 (s : State) : Result :=
  .next (invalidMain 0xA5 s)

/-- INVALID, opcode 0xA6 (42_control.md rule R146). -/
def execInvalidA6 (s : State) : Result :=
  .next (invalidMain 0xA6 s)

/-- INVALID, opcode 0xA7 (42_control.md rule R146). -/
def execInvalidA7 (s : State) : Result :=
  .next (invalidMain 0xA7 s)

/-- INVALID, opcode 0xA8 (42_control.md rule R146). -/
def execInvalidA8 (s : State) : Result :=
  .next (invalidMain 0xA8 s)

/-- INVALID, opcode 0xA9 (42_control.md rule R146). -/
def execInvalidA9 (s : State) : Result :=
  .next (invalidMain 0xA9 s)

/-- INVALID, opcode 0xAA (42_control.md rule R146). -/
def execInvalidAA (s : State) : Result :=
  .next (invalidMain 0xAA s)

/-- INVALID, opcode 0xAB (42_control.md rule R146). -/
def execInvalidAB (s : State) : Result :=
  .next (invalidMain 0xAB s)

/-- INVALID, opcode 0xAC (42_control.md rule R146). -/
def execInvalidAC (s : State) : Result :=
  .next (invalidMain 0xAC s)

/-- INVALID, opcode 0xAD (42_control.md rule R146). -/
def execInvalidAD (s : State) : Result :=
  .next (invalidMain 0xAD s)

/-- INVALID, opcode 0xAE (42_control.md rule R146). -/
def execInvalidAE (s : State) : Result :=
  .next (invalidMain 0xAE s)

/-- INVALID, opcode 0xB0 (42_control.md rule R146). -/
def execInvalidB0 (s : State) : Result :=
  .next (invalidMain 0xB0 s)

/-- INVALID, opcode 0xB1 (42_control.md rule R146). -/
def execInvalidB1 (s : State) : Result :=
  .next (invalidMain 0xB1 s)

/-- INVALID, opcode 0xB2 (42_control.md rule R146). -/
def execInvalidB2 (s : State) : Result :=
  .next (invalidMain 0xB2 s)

/-- INVALID, opcode 0xB3 (42_control.md rule R146). -/
def execInvalidB3 (s : State) : Result :=
  .next (invalidMain 0xB3 s)

/-- INVALID, opcode 0xB4 (42_control.md rule R146). -/
def execInvalidB4 (s : State) : Result :=
  .next (invalidMain 0xB4 s)

/-- INVALID, opcode 0xB5 (42_control.md rule R146). -/
def execInvalidB5 (s : State) : Result :=
  .next (invalidMain 0xB5 s)

/-- INVALID, opcode 0xB6 (42_control.md rule R146). -/
def execInvalidB6 (s : State) : Result :=
  .next (invalidMain 0xB6 s)

/-- INVALID, opcode 0xB7 (42_control.md rule R146). -/
def execInvalidB7 (s : State) : Result :=
  .next (invalidMain 0xB7 s)

/-- INVALID, opcode 0xB8 (42_control.md rule R146). -/
def execInvalidB8 (s : State) : Result :=
  .next (invalidMain 0xB8 s)

/-- INVALID, opcode 0xB9 (42_control.md rule R146). -/
def execInvalidB9 (s : State) : Result :=
  .next (invalidMain 0xB9 s)

/-- INVALID, opcode 0xBA (42_control.md rule R146). -/
def execInvalidBA (s : State) : Result :=
  .next (invalidMain 0xBA s)

/-- INVALID, opcode 0xBB (42_control.md rule R146). -/
def execInvalidBB (s : State) : Result :=
  .next (invalidMain 0xBB s)

/-- INVALID, opcode 0xBC (42_control.md rule R146). -/
def execInvalidBC (s : State) : Result :=
  .next (invalidMain 0xBC s)

/-- INVALID, opcode 0xBD (42_control.md rule R146). -/
def execInvalidBD (s : State) : Result :=
  .next (invalidMain 0xBD s)

/-- INVALID, opcode 0xBE (42_control.md rule R146). -/
def execInvalidBE (s : State) : Result :=
  .next (invalidMain 0xBE s)

/-- INVALID, opcode 0xBF (42_control.md rule R146). -/
def execInvalidBF (s : State) : Result :=
  .next (invalidMain 0xBF s)

/-- INVALID, opcode 0xC0 (42_control.md rule R146). -/
def execInvalidC0 (s : State) : Result :=
  .next (invalidMain 0xC0 s)

/-- INVALID, opcode 0xC1 (42_control.md rule R146). -/
def execInvalidC1 (s : State) : Result :=
  .next (invalidMain 0xC1 s)

/-- INVALID, opcode 0xC2 (42_control.md rule R146). -/
def execInvalidC2 (s : State) : Result :=
  .next (invalidMain 0xC2 s)

/-- INVALID, opcode 0xC4 (42_control.md rule R146). -/
def execInvalidC4 (s : State) : Result :=
  .next (invalidMain 0xC4 s)

/-- INVALID, opcode 0xC5 (42_control.md rule R146). -/
def execInvalidC5 (s : State) : Result :=
  .next (invalidMain 0xC5 s)

/-- INVALID, opcode 0xC6 (42_control.md rule R146). -/
def execInvalidC6 (s : State) : Result :=
  .next (invalidMain 0xC6 s)

/-- INVALID, opcode 0xC7 (42_control.md rule R146). -/
def execInvalidC7 (s : State) : Result :=
  .next (invalidMain 0xC7 s)

/-- INVALID, opcode 0xC8 (42_control.md rule R146). -/
def execInvalidC8 (s : State) : Result :=
  .next (invalidMain 0xC8 s)

/-- INVALID, opcode 0xC9 (42_control.md rule R146). -/
def execInvalidC9 (s : State) : Result :=
  .next (invalidMain 0xC9 s)

/-- INVALID, opcode 0xCA (42_control.md rule R146). -/
def execInvalidCA (s : State) : Result :=
  .next (invalidMain 0xCA s)

/-- INVALID, opcode 0xCC (42_control.md rule R146). -/
def execInvalidCC (s : State) : Result :=
  .next (invalidMain 0xCC s)

/-- INVALID, opcode 0xCD (42_control.md rule R146). -/
def execInvalidCD (s : State) : Result :=
  .next (invalidMain 0xCD s)

/-- INVALID, opcode 0xCE (42_control.md rule R146). -/
def execInvalidCE (s : State) : Result :=
  .next (invalidMain 0xCE s)

/-- INVALID, opcode 0xCF (42_control.md rule R146). -/
def execInvalidCF (s : State) : Result :=
  .next (invalidMain 0xCF s)

/-- INVALID, opcode 0xD0 (42_control.md rule R146). -/
def execInvalidD0 (s : State) : Result :=
  .next (invalidMain 0xD0 s)

/-- INVALID, opcode 0xD1 (42_control.md rule R146). -/
def execInvalidD1 (s : State) : Result :=
  .next (invalidMain 0xD1 s)

/-- INVALID, opcode 0xD2 (42_control.md rule R146). -/
def execInvalidD2 (s : State) : Result :=
  .next (invalidMain 0xD2 s)

/-- INVALID, opcode 0xD3 (42_control.md rule R146). -/
def execInvalidD3 (s : State) : Result :=
  .next (invalidMain 0xD3 s)

/-- INVALID, opcode 0xD4 (42_control.md rule R146). -/
def execInvalidD4 (s : State) : Result :=
  .next (invalidMain 0xD4 s)

/-- INVALID, opcode 0xD5 (42_control.md rule R146). -/
def execInvalidD5 (s : State) : Result :=
  .next (invalidMain 0xD5 s)

/-- INVALID, opcode 0xD6 (42_control.md rule R146). -/
def execInvalidD6 (s : State) : Result :=
  .next (invalidMain 0xD6 s)

/-- INVALID, opcode 0xD7 (42_control.md rule R146). -/
def execInvalidD7 (s : State) : Result :=
  .next (invalidMain 0xD7 s)

/-- INVALID, opcode 0xD8 (42_control.md rule R146). -/
def execInvalidD8 (s : State) : Result :=
  .next (invalidMain 0xD8 s)

/-- INVALID, opcode 0xD9 (42_control.md rule R146). -/
def execInvalidD9 (s : State) : Result :=
  .next (invalidMain 0xD9 s)

/-- INVALID, opcode 0xDA (42_control.md rule R146). -/
def execInvalidDA (s : State) : Result :=
  .next (invalidMain 0xDA s)

/-- INVALID, opcode 0xDB (42_control.md rule R146). -/
def execInvalidDB (s : State) : Result :=
  .next (invalidMain 0xDB s)

/-- INVALID, opcode 0xDC (42_control.md rule R146). -/
def execInvalidDC (s : State) : Result :=
  .next (invalidMain 0xDC s)

/-- INVALID, opcode 0xDD (42_control.md rule R146). -/
def execInvalidDD (s : State) : Result :=
  .next (invalidMain 0xDD s)

/-- INVALID, opcode 0xDE (42_control.md rule R146). -/
def execInvalidDE (s : State) : Result :=
  .next (invalidMain 0xDE s)

/-- INVALID, opcode 0xDF (42_control.md rule R146). -/
def execInvalidDF (s : State) : Result :=
  .next (invalidMain 0xDF s)

/-- INVALID, opcode 0xE0 (42_control.md rule R146). -/
def execInvalidE0 (s : State) : Result :=
  .next (invalidMain 0xE0 s)

/-- INVALID, opcode 0xE1 (42_control.md rule R146). -/
def execInvalidE1 (s : State) : Result :=
  .next (invalidMain 0xE1 s)

/-- INVALID, opcode 0xE2 (42_control.md rule R146). -/
def execInvalidE2 (s : State) : Result :=
  .next (invalidMain 0xE2 s)

/-- INVALID, opcode 0xE3 (42_control.md rule R146). -/
def execInvalidE3 (s : State) : Result :=
  .next (invalidMain 0xE3 s)

/-- INVALID, opcode 0xE4 (42_control.md rule R146). -/
def execInvalidE4 (s : State) : Result :=
  .next (invalidMain 0xE4 s)

/-- INVALID, opcode 0xE5 (42_control.md rule R146). -/
def execInvalidE5 (s : State) : Result :=
  .next (invalidMain 0xE5 s)

/-- INVALID, opcode 0xE6 (42_control.md rule R146). -/
def execInvalidE6 (s : State) : Result :=
  .next (invalidMain 0xE6 s)

/-- INVALID, opcode 0xE7 (42_control.md rule R146). -/
def execInvalidE7 (s : State) : Result :=
  .next (invalidMain 0xE7 s)

/-- INVALID, opcode 0xE8 (42_control.md rule R146). -/
def execInvalidE8 (s : State) : Result :=
  .next (invalidMain 0xE8 s)

/-- INVALID, opcode 0xE9 (42_control.md rule R146). -/
def execInvalidE9 (s : State) : Result :=
  .next (invalidMain 0xE9 s)

/-- INVALID, opcode 0xEB (42_control.md rule R146). -/
def execInvalidEB (s : State) : Result :=
  .next (invalidMain 0xEB s)

/-- INVALID, opcode 0xEC (42_control.md rule R146). -/
def execInvalidEC (s : State) : Result :=
  .next (invalidMain 0xEC s)

/-- INVALID, opcode 0xED (42_control.md rule R146). -/
def execInvalidED (s : State) : Result :=
  .next (invalidMain 0xED s)

/-- INVALID, opcode 0xEE (42_control.md rule R146). -/
def execInvalidEE (s : State) : Result :=
  .next (invalidMain 0xEE s)

/-- INVALID, opcode 0xEF (42_control.md rule R146). -/
def execInvalidEF (s : State) : Result :=
  .next (invalidMain 0xEF s)

/-- INVALID, opcode 0xF0 (42_control.md rule R146). -/
def execInvalidF0 (s : State) : Result :=
  .next (invalidMain 0xF0 s)

/-- INVALID, opcode 0xF1 (42_control.md rule R146). -/
def execInvalidF1 (s : State) : Result :=
  .next (invalidMain 0xF1 s)

/-- INVALID, opcode 0xF2 (42_control.md rule R146). -/
def execInvalidF2 (s : State) : Result :=
  .next (invalidMain 0xF2 s)

/-- INVALID, opcode 0xF3 (42_control.md rule R146). -/
def execInvalidF3 (s : State) : Result :=
  .next (invalidMain 0xF3 s)

/-- INVALID, opcode 0xF4 (42_control.md rule R146). -/
def execInvalidF4 (s : State) : Result :=
  .next (invalidMain 0xF4 s)

/-- INVALID, opcode 0xF5 (42_control.md rule R146). -/
def execInvalidF5 (s : State) : Result :=
  .next (invalidMain 0xF5 s)

/-- INVALID, opcode 0xF6 (42_control.md rule R146). -/
def execInvalidF6 (s : State) : Result :=
  .next (invalidMain 0xF6 s)

/-- INVALID, opcode 0xF7 (42_control.md rule R146). -/
def execInvalidF7 (s : State) : Result :=
  .next (invalidMain 0xF7 s)

/-- INVALID, opcode 0xF8 (42_control.md rule R146). -/
def execInvalidF8 (s : State) : Result :=
  .next (invalidMain 0xF8 s)

/-- INVALID, opcode 0xF9 (42_control.md rule R146). -/
def execInvalidF9 (s : State) : Result :=
  .next (invalidMain 0xF9 s)

/-- INVALID, opcode 0xFB (42_control.md rule R146). -/
def execInvalidFB (s : State) : Result :=
  .next (invalidMain 0xFB s)

/-- INVALID, opcode 0xFC (42_control.md rule R146). -/
def execInvalidFC (s : State) : Result :=
  .next (invalidMain 0xFC s)

/-- INVALID, opcode 0xFD (42_control.md rule R146). -/
def execInvalidFD (s : State) : Result :=
  .next (invalidMain 0xFD s)

/-- INVALID, opcode 0xFE (42_control.md rule R146). -/
def execInvalidFE (s : State) : Result :=
  .next (invalidMain 0xFE s)

/-- INVALID, opcode 0xFF (42_control.md rule R146). -/
def execInvalidFF (s : State) : Result :=
  .next (invalidMain 0xFF s)

/-- INVALID, at the opcode byte `op` that a narrower table withdraws (42_control.md rule R146). -/
def execInvalidWithdrawn (op : Byte) (s : State) : Result :=
  .next (invalidMain op s)

end Sys2Proof.Machine
end

