-- ==== Sys2Proof/Machine/Load.lean ====
section
/-! DEFINITION. Immediate loads, and loads and stores through BC and DE and at an absolute address (41_loads.md rules
R120 to R122, R127 to R130): one meaning per instruction. No load or store writes a flag (rule R131). -/

namespace Sys2Proof.Machine

/-- LD BC,d16 (41_loads.md rule R120). -/
def execLdBcD16 (d16 : Word) (s : State) : Result :=
  .next (setPair .bc d16 3 s.cycles.ldRrD16 s)

/-- LD (BC),A (41_loads.md rule R128). -/
def execLdAtBcA (s : State) : Result :=
  .next (storeTo .atBc (readReg .a s) 1 s.cycles.ldAtRrA s)

/-- LD B,d8 (41_loads.md rule R121). -/
def execLdBD8 (d8 : Byte) (s : State) : Result :=
  .next (setReg .b d8 2 s.cycles.ldRD8 s)

/-- LD A,(BC) (41_loads.md rule R127). -/
def execLdAAtBc (s : State) : Result :=
  .next (loadFrom .a .atBc 1 s.cycles.ldAAtRr s)

/-- LD C,d8 (41_loads.md rule R121). -/
def execLdCD8 (d8 : Byte) (s : State) : Result :=
  .next (setReg .c d8 2 s.cycles.ldRD8 s)

/-- LD DE,d16 (41_loads.md rule R120). -/
def execLdDeD16 (d16 : Word) (s : State) : Result :=
  .next (setPair .de d16 3 s.cycles.ldRrD16 s)

/-- LD (DE),A (41_loads.md rule R128). -/
def execLdAtDeA (s : State) : Result :=
  .next (storeTo .atDe (readReg .a s) 1 s.cycles.ldAtRrA s)

/-- LD D,d8 (41_loads.md rule R121). -/
def execLdDD8 (d8 : Byte) (s : State) : Result :=
  .next (setReg .d d8 2 s.cycles.ldRD8 s)

/-- LD A,(DE) (41_loads.md rule R127). -/
def execLdAAtDe (s : State) : Result :=
  .next (loadFrom .a .atDe 1 s.cycles.ldAAtRr s)

/-- LD E,d8 (41_loads.md rule R121). -/
def execLdED8 (d8 : Byte) (s : State) : Result :=
  .next (setReg .e d8 2 s.cycles.ldRD8 s)

/-- LD HL,d16 (41_loads.md rule R120). -/
def execLdHlD16 (d16 : Word) (s : State) : Result :=
  .next (setPair .hl d16 3 s.cycles.ldRrD16 s)

/-- LD H,d8 (41_loads.md rule R121). -/
def execLdHD8 (d8 : Byte) (s : State) : Result :=
  .next (setReg .h d8 2 s.cycles.ldRD8 s)

/-- LD L,d8 (41_loads.md rule R121). -/
def execLdLD8 (d8 : Byte) (s : State) : Result :=
  .next (setReg .l d8 2 s.cycles.ldRD8 s)

/-- LD SP,d16 (41_loads.md rule R120). -/
def execLdSpD16 (d16 : Word) (s : State) : Result :=
  .next (setPair .sp d16 3 s.cycles.ldRrD16 s)

/-- LD (HL),d8 (41_loads.md rule R122). -/
def execLdAtHlD8 (d8 : Byte) (s : State) : Result :=
  .next (storeTo .atHl d8 2 s.cycles.ldAtHlD8 s)

/-- LD A,d8 (41_loads.md rule R121). -/
def execLdAD8 (d8 : Byte) (s : State) : Result :=
  .next (setReg .a d8 2 s.cycles.ldRD8 s)

/-- LD (a16),A (41_loads.md rule R130). -/
def execLdAtA16A (a16 : Word) (s : State) : Result :=
  .next (storeTo (.absolute a16) (readReg .a s) 3 s.cycles.ldAtA16A s)

/-- LD A,(a16) (41_loads.md rule R129). -/
def execLdAAtA16 (a16 : Word) (s : State) : Result :=
  .next (loadFrom .a (.absolute a16) 3 s.cycles.ldAAtA16 s)

end Sys2Proof.Machine
end

