-- ==== Sys2Proof/Machine/Move.lean ====
section
/-! DEFINITION. Register moves and the moves between a register and the byte at HL (41_loads.md rules R123 to R125):
one meaning per instruction. -/

namespace Sys2Proof.Machine

/-- LD B,B (41_loads.md rule R123). -/
def execLdBB (s : State) : Result :=
  .next (setReg .b (readReg .b s) 1 s.cycles.ldRR s)

/-- LD B,C (41_loads.md rule R123). -/
def execLdBC (s : State) : Result :=
  .next (setReg .b (readReg .c s) 1 s.cycles.ldRR s)

/-- LD B,D (41_loads.md rule R123). -/
def execLdBD (s : State) : Result :=
  .next (setReg .b (readReg .d s) 1 s.cycles.ldRR s)

/-- LD B,E (41_loads.md rule R123). -/
def execLdBE (s : State) : Result :=
  .next (setReg .b (readReg .e s) 1 s.cycles.ldRR s)

/-- LD B,H (41_loads.md rule R123). -/
def execLdBH (s : State) : Result :=
  .next (setReg .b (readReg .h s) 1 s.cycles.ldRR s)

/-- LD B,L (41_loads.md rule R123). -/
def execLdBL (s : State) : Result :=
  .next (setReg .b (readReg .l s) 1 s.cycles.ldRR s)

/-- LD B,(HL) (41_loads.md rule R124). -/
def execLdBAtHl (s : State) : Result :=
  .next (loadFrom .b .atHl 1 s.cycles.ldRAtHl s)

/-- LD B,A (41_loads.md rule R123). -/
def execLdBA (s : State) : Result :=
  .next (setReg .b (readReg .a s) 1 s.cycles.ldRR s)

/-- LD C,B (41_loads.md rule R123). -/
def execLdCB (s : State) : Result :=
  .next (setReg .c (readReg .b s) 1 s.cycles.ldRR s)

/-- LD C,C (41_loads.md rule R123). -/
def execLdCC (s : State) : Result :=
  .next (setReg .c (readReg .c s) 1 s.cycles.ldRR s)

/-- LD C,D (41_loads.md rule R123). -/
def execLdCD (s : State) : Result :=
  .next (setReg .c (readReg .d s) 1 s.cycles.ldRR s)

/-- LD C,E (41_loads.md rule R123). -/
def execLdCE (s : State) : Result :=
  .next (setReg .c (readReg .e s) 1 s.cycles.ldRR s)

/-- LD C,H (41_loads.md rule R123). -/
def execLdCH (s : State) : Result :=
  .next (setReg .c (readReg .h s) 1 s.cycles.ldRR s)

/-- LD C,L (41_loads.md rule R123). -/
def execLdCL (s : State) : Result :=
  .next (setReg .c (readReg .l s) 1 s.cycles.ldRR s)

/-- LD C,(HL) (41_loads.md rule R124). -/
def execLdCAtHl (s : State) : Result :=
  .next (loadFrom .c .atHl 1 s.cycles.ldRAtHl s)

/-- LD C,A (41_loads.md rule R123). -/
def execLdCA (s : State) : Result :=
  .next (setReg .c (readReg .a s) 1 s.cycles.ldRR s)

/-- LD D,B (41_loads.md rule R123). -/
def execLdDB (s : State) : Result :=
  .next (setReg .d (readReg .b s) 1 s.cycles.ldRR s)

/-- LD D,C (41_loads.md rule R123). -/
def execLdDC (s : State) : Result :=
  .next (setReg .d (readReg .c s) 1 s.cycles.ldRR s)

/-- LD D,D (41_loads.md rule R123). -/
def execLdDD (s : State) : Result :=
  .next (setReg .d (readReg .d s) 1 s.cycles.ldRR s)

/-- LD D,E (41_loads.md rule R123). -/
def execLdDE (s : State) : Result :=
  .next (setReg .d (readReg .e s) 1 s.cycles.ldRR s)

/-- LD D,H (41_loads.md rule R123). -/
def execLdDH (s : State) : Result :=
  .next (setReg .d (readReg .h s) 1 s.cycles.ldRR s)

/-- LD D,L (41_loads.md rule R123). -/
def execLdDL (s : State) : Result :=
  .next (setReg .d (readReg .l s) 1 s.cycles.ldRR s)

/-- LD D,(HL) (41_loads.md rule R124). -/
def execLdDAtHl (s : State) : Result :=
  .next (loadFrom .d .atHl 1 s.cycles.ldRAtHl s)

/-- LD D,A (41_loads.md rule R123). -/
def execLdDA (s : State) : Result :=
  .next (setReg .d (readReg .a s) 1 s.cycles.ldRR s)

/-- LD E,B (41_loads.md rule R123). -/
def execLdEB (s : State) : Result :=
  .next (setReg .e (readReg .b s) 1 s.cycles.ldRR s)

/-- LD E,C (41_loads.md rule R123). -/
def execLdEC (s : State) : Result :=
  .next (setReg .e (readReg .c s) 1 s.cycles.ldRR s)

/-- LD E,D (41_loads.md rule R123). -/
def execLdED (s : State) : Result :=
  .next (setReg .e (readReg .d s) 1 s.cycles.ldRR s)

/-- LD E,E (41_loads.md rule R123). -/
def execLdEE (s : State) : Result :=
  .next (setReg .e (readReg .e s) 1 s.cycles.ldRR s)

/-- LD E,H (41_loads.md rule R123). -/
def execLdEH (s : State) : Result :=
  .next (setReg .e (readReg .h s) 1 s.cycles.ldRR s)

/-- LD E,L (41_loads.md rule R123). -/
def execLdEL (s : State) : Result :=
  .next (setReg .e (readReg .l s) 1 s.cycles.ldRR s)

/-- LD E,(HL) (41_loads.md rule R124). -/
def execLdEAtHl (s : State) : Result :=
  .next (loadFrom .e .atHl 1 s.cycles.ldRAtHl s)

/-- LD E,A (41_loads.md rule R123). -/
def execLdEA (s : State) : Result :=
  .next (setReg .e (readReg .a s) 1 s.cycles.ldRR s)

/-- LD H,B (41_loads.md rule R123). -/
def execLdHB (s : State) : Result :=
  .next (setReg .h (readReg .b s) 1 s.cycles.ldRR s)

/-- LD H,C (41_loads.md rule R123). -/
def execLdHC (s : State) : Result :=
  .next (setReg .h (readReg .c s) 1 s.cycles.ldRR s)

/-- LD H,D (41_loads.md rule R123). -/
def execLdHD (s : State) : Result :=
  .next (setReg .h (readReg .d s) 1 s.cycles.ldRR s)

/-- LD H,E (41_loads.md rule R123). -/
def execLdHE (s : State) : Result :=
  .next (setReg .h (readReg .e s) 1 s.cycles.ldRR s)

/-- LD H,H (41_loads.md rule R123). -/
def execLdHH (s : State) : Result :=
  .next (setReg .h (readReg .h s) 1 s.cycles.ldRR s)

/-- LD H,L (41_loads.md rule R123). -/
def execLdHL (s : State) : Result :=
  .next (setReg .h (readReg .l s) 1 s.cycles.ldRR s)

/-- LD H,(HL) (41_loads.md rule R124). -/
def execLdHAtHl (s : State) : Result :=
  .next (loadFrom .h .atHl 1 s.cycles.ldRAtHl s)

/-- LD H,A (41_loads.md rule R123). -/
def execLdHA (s : State) : Result :=
  .next (setReg .h (readReg .a s) 1 s.cycles.ldRR s)

/-- LD L,B (41_loads.md rule R123). -/
def execLdLB (s : State) : Result :=
  .next (setReg .l (readReg .b s) 1 s.cycles.ldRR s)

/-- LD L,C (41_loads.md rule R123). -/
def execLdLC (s : State) : Result :=
  .next (setReg .l (readReg .c s) 1 s.cycles.ldRR s)

/-- LD L,D (41_loads.md rule R123). -/
def execLdLD (s : State) : Result :=
  .next (setReg .l (readReg .d s) 1 s.cycles.ldRR s)

/-- LD L,E (41_loads.md rule R123). -/
def execLdLE (s : State) : Result :=
  .next (setReg .l (readReg .e s) 1 s.cycles.ldRR s)

/-- LD L,H (41_loads.md rule R123). -/
def execLdLH (s : State) : Result :=
  .next (setReg .l (readReg .h s) 1 s.cycles.ldRR s)

/-- LD L,L (41_loads.md rule R123). -/
def execLdLL (s : State) : Result :=
  .next (setReg .l (readReg .l s) 1 s.cycles.ldRR s)

/-- LD L,(HL) (41_loads.md rule R124). -/
def execLdLAtHl (s : State) : Result :=
  .next (loadFrom .l .atHl 1 s.cycles.ldRAtHl s)

/-- LD L,A (41_loads.md rule R123). -/
def execLdLA (s : State) : Result :=
  .next (setReg .l (readReg .a s) 1 s.cycles.ldRR s)

/-- LD (HL),B (41_loads.md rule R125). -/
def execLdAtHlB (s : State) : Result :=
  .next (storeTo .atHl (readReg .b s) 1 s.cycles.ldAtHlR s)

/-- LD (HL),C (41_loads.md rule R125). -/
def execLdAtHlC (s : State) : Result :=
  .next (storeTo .atHl (readReg .c s) 1 s.cycles.ldAtHlR s)

/-- LD (HL),D (41_loads.md rule R125). -/
def execLdAtHlD (s : State) : Result :=
  .next (storeTo .atHl (readReg .d s) 1 s.cycles.ldAtHlR s)

/-- LD (HL),E (41_loads.md rule R125). -/
def execLdAtHlE (s : State) : Result :=
  .next (storeTo .atHl (readReg .e s) 1 s.cycles.ldAtHlR s)

/-- LD (HL),H (41_loads.md rule R125). -/
def execLdAtHlH (s : State) : Result :=
  .next (storeTo .atHl (readReg .h s) 1 s.cycles.ldAtHlR s)

/-- LD (HL),L (41_loads.md rule R125). -/
def execLdAtHlL (s : State) : Result :=
  .next (storeTo .atHl (readReg .l s) 1 s.cycles.ldAtHlR s)

/-- LD (HL),A (41_loads.md rule R125). -/
def execLdAtHlA (s : State) : Result :=
  .next (storeTo .atHl (readReg .a s) 1 s.cycles.ldAtHlR s)

/-- LD A,B (41_loads.md rule R123). -/
def execLdAB (s : State) : Result :=
  .next (setReg .a (readReg .b s) 1 s.cycles.ldRR s)

/-- LD A,C (41_loads.md rule R123). -/
def execLdAC (s : State) : Result :=
  .next (setReg .a (readReg .c s) 1 s.cycles.ldRR s)

/-- LD A,D (41_loads.md rule R123). -/
def execLdAD (s : State) : Result :=
  .next (setReg .a (readReg .d s) 1 s.cycles.ldRR s)

/-- LD A,E (41_loads.md rule R123). -/
def execLdAE (s : State) : Result :=
  .next (setReg .a (readReg .e s) 1 s.cycles.ldRR s)

/-- LD A,H (41_loads.md rule R123). -/
def execLdAH (s : State) : Result :=
  .next (setReg .a (readReg .h s) 1 s.cycles.ldRR s)

/-- LD A,L (41_loads.md rule R123). -/
def execLdAL (s : State) : Result :=
  .next (setReg .a (readReg .l s) 1 s.cycles.ldRR s)

/-- LD A,(HL) (41_loads.md rule R124). -/
def execLdAAtHl (s : State) : Result :=
  .next (loadFrom .a .atHl 1 s.cycles.ldRAtHl s)

/-- LD A,A (41_loads.md rule R123). -/
def execLdAA (s : State) : Result :=
  .next (setReg .a (readReg .a s) 1 s.cycles.ldRR s)

end Sys2Proof.Machine
end

