-- ==== Sys2Proof/Machine/Dispatch.lean ====
section
/-! DEFINITION. The dispatch: one arm per constructor of Instr (10_state.md rule R31, 42_control.md rule R140). -/

namespace Sys2Proof.Machine

-- `s` is the state at the start of the step, PC at the opcode byte (`pc0`); the next state has everything the
-- instruction itself does, the advance of PC over its bytes among it.
def exec (i : Instr) (s : State) : Host.Outcome State Fault Refusal :=
  match i with
  | .nop => Sys2Proof.Machine.execNop s
  | .ldBcD16 d16 => Sys2Proof.Machine.execLdBcD16 d16 s
  | .ldAtBcA => Sys2Proof.Machine.execLdAtBcA s
  | .invalid03 => Sys2Proof.Machine.execInvalid03 s
  | .incB => Sys2Proof.Machine.execIncB s
  | .decB => Sys2Proof.Machine.execDecB s
  | .ldBD8 d8 => Sys2Proof.Machine.execLdBD8 d8 s
  | .invalid07 => Sys2Proof.Machine.execInvalid07 s
  | .invalid08 => Sys2Proof.Machine.execInvalid08 s
  | .invalid09 => Sys2Proof.Machine.execInvalid09 s
  | .ldAAtBc => Sys2Proof.Machine.execLdAAtBc s
  | .invalid0B => Sys2Proof.Machine.execInvalid0B s
  | .incC => Sys2Proof.Machine.execIncC s
  | .decC => Sys2Proof.Machine.execDecC s
  | .ldCD8 d8 => Sys2Proof.Machine.execLdCD8 d8 s
  | .invalid0F => Sys2Proof.Machine.execInvalid0F s
  | .invalid10 => Sys2Proof.Machine.execInvalid10 s
  | .ldDeD16 d16 => Sys2Proof.Machine.execLdDeD16 d16 s
  | .ldAtDeA => Sys2Proof.Machine.execLdAtDeA s
  | .invalid13 => Sys2Proof.Machine.execInvalid13 s
  | .incD => Sys2Proof.Machine.execIncD s
  | .decD => Sys2Proof.Machine.execDecD s
  | .ldDD8 d8 => Sys2Proof.Machine.execLdDD8 d8 s
  | .invalid17 => Sys2Proof.Machine.execInvalid17 s
  | .invalid18 => Sys2Proof.Machine.execInvalid18 s
  | .invalid19 => Sys2Proof.Machine.execInvalid19 s
  | .ldAAtDe => Sys2Proof.Machine.execLdAAtDe s
  | .invalid1B => Sys2Proof.Machine.execInvalid1B s
  | .incE => Sys2Proof.Machine.execIncE s
  | .decE => Sys2Proof.Machine.execDecE s
  | .ldED8 d8 => Sys2Proof.Machine.execLdED8 d8 s
  | .invalid1F => Sys2Proof.Machine.execInvalid1F s
  | .invalid20 => Sys2Proof.Machine.execInvalid20 s
  | .ldHlD16 d16 => Sys2Proof.Machine.execLdHlD16 d16 s
  | .invalid22 => Sys2Proof.Machine.execInvalid22 s
  | .invalid23 => Sys2Proof.Machine.execInvalid23 s
  | .incH => Sys2Proof.Machine.execIncH s
  | .decH => Sys2Proof.Machine.execDecH s
  | .ldHD8 d8 => Sys2Proof.Machine.execLdHD8 d8 s
  | .invalid27 => Sys2Proof.Machine.execInvalid27 s
  | .invalid28 => Sys2Proof.Machine.execInvalid28 s
  | .invalid29 => Sys2Proof.Machine.execInvalid29 s
  | .invalid2A => Sys2Proof.Machine.execInvalid2A s
  | .invalid2B => Sys2Proof.Machine.execInvalid2B s
  | .incL => Sys2Proof.Machine.execIncL s
  | .decL => Sys2Proof.Machine.execDecL s
  | .ldLD8 d8 => Sys2Proof.Machine.execLdLD8 d8 s
  | .invalid2F => Sys2Proof.Machine.execInvalid2F s
  | .invalid30 => Sys2Proof.Machine.execInvalid30 s
  | .ldSpD16 d16 => Sys2Proof.Machine.execLdSpD16 d16 s
  | .invalid32 => Sys2Proof.Machine.execInvalid32 s
  | .invalid33 => Sys2Proof.Machine.execInvalid33 s
  | .incAtHl => Sys2Proof.Machine.execIncAtHl s
  | .invalid35 => Sys2Proof.Machine.execInvalid35 s
  | .ldAtHlD8 d8 => Sys2Proof.Machine.execLdAtHlD8 d8 s
  | .invalid37 => Sys2Proof.Machine.execInvalid37 s
  | .invalid38 => Sys2Proof.Machine.execInvalid38 s
  | .invalid39 => Sys2Proof.Machine.execInvalid39 s
  | .invalid3A => Sys2Proof.Machine.execInvalid3A s
  | .invalid3B => Sys2Proof.Machine.execInvalid3B s
  | .incA => Sys2Proof.Machine.execIncA s
  | .decA => Sys2Proof.Machine.execDecA s
  | .ldAD8 d8 => Sys2Proof.Machine.execLdAD8 d8 s
  | .invalid3F => Sys2Proof.Machine.execInvalid3F s
  | .ldBB => Sys2Proof.Machine.execLdBB s
  | .ldBC => Sys2Proof.Machine.execLdBC s
  | .ldBD => Sys2Proof.Machine.execLdBD s
  | .ldBE => Sys2Proof.Machine.execLdBE s
  | .ldBH => Sys2Proof.Machine.execLdBH s
  | .ldBL => Sys2Proof.Machine.execLdBL s
  | .ldBAtHl => Sys2Proof.Machine.execLdBAtHl s
  | .ldBA => Sys2Proof.Machine.execLdBA s
  | .ldCB => Sys2Proof.Machine.execLdCB s
  | .ldCC => Sys2Proof.Machine.execLdCC s
  | .ldCD => Sys2Proof.Machine.execLdCD s
  | .ldCE => Sys2Proof.Machine.execLdCE s
  | .ldCH => Sys2Proof.Machine.execLdCH s
  | .ldCL => Sys2Proof.Machine.execLdCL s
  | .ldCAtHl => Sys2Proof.Machine.execLdCAtHl s
  | .ldCA => Sys2Proof.Machine.execLdCA s
  | .ldDB => Sys2Proof.Machine.execLdDB s
  | .ldDC => Sys2Proof.Machine.execLdDC s
  | .ldDD => Sys2Proof.Machine.execLdDD s
  | .ldDE => Sys2Proof.Machine.execLdDE s
  | .ldDH => Sys2Proof.Machine.execLdDH s
  | .ldDL => Sys2Proof.Machine.execLdDL s
  | .ldDAtHl => Sys2Proof.Machine.execLdDAtHl s
  | .ldDA => Sys2Proof.Machine.execLdDA s
  | .ldEB => Sys2Proof.Machine.execLdEB s
  | .ldEC => Sys2Proof.Machine.execLdEC s
  | .ldED => Sys2Proof.Machine.execLdED s
  | .ldEE => Sys2Proof.Machine.execLdEE s
  | .ldEH => Sys2Proof.Machine.execLdEH s
  | .ldEL => Sys2Proof.Machine.execLdEL s
  | .ldEAtHl => Sys2Proof.Machine.execLdEAtHl s
  | .ldEA => Sys2Proof.Machine.execLdEA s
  | .ldHB => Sys2Proof.Machine.execLdHB s
  | .ldHC => Sys2Proof.Machine.execLdHC s
  | .ldHD => Sys2Proof.Machine.execLdHD s
  | .ldHE => Sys2Proof.Machine.execLdHE s
  | .ldHH => Sys2Proof.Machine.execLdHH s
  | .ldHL => Sys2Proof.Machine.execLdHL s
  | .ldHAtHl => Sys2Proof.Machine.execLdHAtHl s
  | .ldHA => Sys2Proof.Machine.execLdHA s
  | .ldLB => Sys2Proof.Machine.execLdLB s
  | .ldLC => Sys2Proof.Machine.execLdLC s
  | .ldLD => Sys2Proof.Machine.execLdLD s
  | .ldLE => Sys2Proof.Machine.execLdLE s
  | .ldLH => Sys2Proof.Machine.execLdLH s
  | .ldLL => Sys2Proof.Machine.execLdLL s
  | .ldLAtHl => Sys2Proof.Machine.execLdLAtHl s
  | .ldLA => Sys2Proof.Machine.execLdLA s
  | .ldAtHlB => Sys2Proof.Machine.execLdAtHlB s
  | .ldAtHlC => Sys2Proof.Machine.execLdAtHlC s
  | .ldAtHlD => Sys2Proof.Machine.execLdAtHlD s
  | .ldAtHlE => Sys2Proof.Machine.execLdAtHlE s
  | .ldAtHlH => Sys2Proof.Machine.execLdAtHlH s
  | .ldAtHlL => Sys2Proof.Machine.execLdAtHlL s
  | .halt => Sys2Proof.Machine.execHalt s
  | .ldAtHlA => Sys2Proof.Machine.execLdAtHlA s
  | .ldAB => Sys2Proof.Machine.execLdAB s
  | .ldAC => Sys2Proof.Machine.execLdAC s
  | .ldAD => Sys2Proof.Machine.execLdAD s
  | .ldAE => Sys2Proof.Machine.execLdAE s
  | .ldAH => Sys2Proof.Machine.execLdAH s
  | .ldAL => Sys2Proof.Machine.execLdAL s
  | .ldAAtHl => Sys2Proof.Machine.execLdAAtHl s
  | .ldAA => Sys2Proof.Machine.execLdAA s
  | .addAB => Sys2Proof.Machine.execAddAB s
  | .addAC => Sys2Proof.Machine.execAddAC s
  | .addAD => Sys2Proof.Machine.execAddAD s
  | .addAE => Sys2Proof.Machine.execAddAE s
  | .addAH => Sys2Proof.Machine.execAddAH s
  | .addAL => Sys2Proof.Machine.execAddAL s
  | .addAAtHl => Sys2Proof.Machine.execAddAAtHl s
  | .addAA => Sys2Proof.Machine.execAddAA s
  | .invalid88 => Sys2Proof.Machine.execInvalid88 s
  | .invalid89 => Sys2Proof.Machine.execInvalid89 s
  | .invalid8A => Sys2Proof.Machine.execInvalid8A s
  | .invalid8B => Sys2Proof.Machine.execInvalid8B s
  | .invalid8C => Sys2Proof.Machine.execInvalid8C s
  | .invalid8D => Sys2Proof.Machine.execInvalid8D s
  | .invalid8E => Sys2Proof.Machine.execInvalid8E s
  | .invalid8F => Sys2Proof.Machine.execInvalid8F s
  | .subB => Sys2Proof.Machine.execSubB s
  | .subC => Sys2Proof.Machine.execSubC s
  | .subD => Sys2Proof.Machine.execSubD s
  | .subE => Sys2Proof.Machine.execSubE s
  | .subH => Sys2Proof.Machine.execSubH s
  | .subL => Sys2Proof.Machine.execSubL s
  | .subAtHl => Sys2Proof.Machine.execSubAtHl s
  | .subA => Sys2Proof.Machine.execSubA s
  | .invalid98 => Sys2Proof.Machine.execInvalid98 s
  | .invalid99 => Sys2Proof.Machine.execInvalid99 s
  | .invalid9A => Sys2Proof.Machine.execInvalid9A s
  | .invalid9B => Sys2Proof.Machine.execInvalid9B s
  | .invalid9C => Sys2Proof.Machine.execInvalid9C s
  | .invalid9D => Sys2Proof.Machine.execInvalid9D s
  | .invalid9E => Sys2Proof.Machine.execInvalid9E s
  | .invalid9F => Sys2Proof.Machine.execInvalid9F s
  | .invalidA0 => Sys2Proof.Machine.execInvalidA0 s
  | .invalidA1 => Sys2Proof.Machine.execInvalidA1 s
  | .invalidA2 => Sys2Proof.Machine.execInvalidA2 s
  | .invalidA3 => Sys2Proof.Machine.execInvalidA3 s
  | .invalidA4 => Sys2Proof.Machine.execInvalidA4 s
  | .invalidA5 => Sys2Proof.Machine.execInvalidA5 s
  | .invalidA6 => Sys2Proof.Machine.execInvalidA6 s
  | .invalidA7 => Sys2Proof.Machine.execInvalidA7 s
  | .invalidA8 => Sys2Proof.Machine.execInvalidA8 s
  | .invalidA9 => Sys2Proof.Machine.execInvalidA9 s
  | .invalidAA => Sys2Proof.Machine.execInvalidAA s
  | .invalidAB => Sys2Proof.Machine.execInvalidAB s
  | .invalidAC => Sys2Proof.Machine.execInvalidAC s
  | .invalidAD => Sys2Proof.Machine.execInvalidAD s
  | .invalidAE => Sys2Proof.Machine.execInvalidAE s
  | .xorA => Sys2Proof.Machine.execXorA s
  | .invalidB0 => Sys2Proof.Machine.execInvalidB0 s
  | .invalidB1 => Sys2Proof.Machine.execInvalidB1 s
  | .invalidB2 => Sys2Proof.Machine.execInvalidB2 s
  | .invalidB3 => Sys2Proof.Machine.execInvalidB3 s
  | .invalidB4 => Sys2Proof.Machine.execInvalidB4 s
  | .invalidB5 => Sys2Proof.Machine.execInvalidB5 s
  | .invalidB6 => Sys2Proof.Machine.execInvalidB6 s
  | .invalidB7 => Sys2Proof.Machine.execInvalidB7 s
  | .invalidB8 => Sys2Proof.Machine.execInvalidB8 s
  | .invalidB9 => Sys2Proof.Machine.execInvalidB9 s
  | .invalidBA => Sys2Proof.Machine.execInvalidBA s
  | .invalidBB => Sys2Proof.Machine.execInvalidBB s
  | .invalidBC => Sys2Proof.Machine.execInvalidBC s
  | .invalidBD => Sys2Proof.Machine.execInvalidBD s
  | .invalidBE => Sys2Proof.Machine.execInvalidBE s
  | .invalidBF => Sys2Proof.Machine.execInvalidBF s
  | .invalidC0 => Sys2Proof.Machine.execInvalidC0 s
  | .invalidC1 => Sys2Proof.Machine.execInvalidC1 s
  | .invalidC2 => Sys2Proof.Machine.execInvalidC2 s
  | .jpA16 a16 => Sys2Proof.Machine.execJpA16 a16 s
  | .invalidC4 => Sys2Proof.Machine.execInvalidC4 s
  | .invalidC5 => Sys2Proof.Machine.execInvalidC5 s
  | .invalidC6 => Sys2Proof.Machine.execInvalidC6 s
  | .invalidC7 => Sys2Proof.Machine.execInvalidC7 s
  | .invalidC8 => Sys2Proof.Machine.execInvalidC8 s
  | .invalidC9 => Sys2Proof.Machine.execInvalidC9 s
  | .invalidCA => Sys2Proof.Machine.execInvalidCA s
  | .prefixCb cbop => Sys2Proof.Machine.execPrefixCb cbop s
  | .invalidCC => Sys2Proof.Machine.execInvalidCC s
  | .invalidCD => Sys2Proof.Machine.execInvalidCD s
  | .invalidCE => Sys2Proof.Machine.execInvalidCE s
  | .invalidCF => Sys2Proof.Machine.execInvalidCF s
  | .invalidD0 => Sys2Proof.Machine.execInvalidD0 s
  | .invalidD1 => Sys2Proof.Machine.execInvalidD1 s
  | .invalidD2 => Sys2Proof.Machine.execInvalidD2 s
  | .invalidD3 => Sys2Proof.Machine.execInvalidD3 s
  | .invalidD4 => Sys2Proof.Machine.execInvalidD4 s
  | .invalidD5 => Sys2Proof.Machine.execInvalidD5 s
  | .invalidD6 => Sys2Proof.Machine.execInvalidD6 s
  | .invalidD7 => Sys2Proof.Machine.execInvalidD7 s
  | .invalidD8 => Sys2Proof.Machine.execInvalidD8 s
  | .invalidD9 => Sys2Proof.Machine.execInvalidD9 s
  | .invalidDA => Sys2Proof.Machine.execInvalidDA s
  | .invalidDB => Sys2Proof.Machine.execInvalidDB s
  | .invalidDC => Sys2Proof.Machine.execInvalidDC s
  | .invalidDD => Sys2Proof.Machine.execInvalidDD s
  | .invalidDE => Sys2Proof.Machine.execInvalidDE s
  | .invalidDF => Sys2Proof.Machine.execInvalidDF s
  | .invalidE0 => Sys2Proof.Machine.execInvalidE0 s
  | .invalidE1 => Sys2Proof.Machine.execInvalidE1 s
  | .invalidE2 => Sys2Proof.Machine.execInvalidE2 s
  | .invalidE3 => Sys2Proof.Machine.execInvalidE3 s
  | .invalidE4 => Sys2Proof.Machine.execInvalidE4 s
  | .invalidE5 => Sys2Proof.Machine.execInvalidE5 s
  | .invalidE6 => Sys2Proof.Machine.execInvalidE6 s
  | .invalidE7 => Sys2Proof.Machine.execInvalidE7 s
  | .invalidE8 => Sys2Proof.Machine.execInvalidE8 s
  | .invalidE9 => Sys2Proof.Machine.execInvalidE9 s
  | .ldAtA16A a16 => Sys2Proof.Machine.execLdAtA16A a16 s
  | .invalidEB => Sys2Proof.Machine.execInvalidEB s
  | .invalidEC => Sys2Proof.Machine.execInvalidEC s
  | .invalidED => Sys2Proof.Machine.execInvalidED s
  | .invalidEE => Sys2Proof.Machine.execInvalidEE s
  | .invalidEF => Sys2Proof.Machine.execInvalidEF s
  | .invalidF0 => Sys2Proof.Machine.execInvalidF0 s
  | .invalidF1 => Sys2Proof.Machine.execInvalidF1 s
  | .invalidF2 => Sys2Proof.Machine.execInvalidF2 s
  | .invalidF3 => Sys2Proof.Machine.execInvalidF3 s
  | .invalidF4 => Sys2Proof.Machine.execInvalidF4 s
  | .invalidF5 => Sys2Proof.Machine.execInvalidF5 s
  | .invalidF6 => Sys2Proof.Machine.execInvalidF6 s
  | .invalidF7 => Sys2Proof.Machine.execInvalidF7 s
  | .invalidF8 => Sys2Proof.Machine.execInvalidF8 s
  | .invalidF9 => Sys2Proof.Machine.execInvalidF9 s
  | .ldAAtA16 a16 => Sys2Proof.Machine.execLdAAtA16 a16 s
  | .invalidFB => Sys2Proof.Machine.execInvalidFB s
  | .invalidFC => Sys2Proof.Machine.execInvalidFC s
  | .invalidFD => Sys2Proof.Machine.execInvalidFD s
  | .invalidFE => Sys2Proof.Machine.execInvalidFE s
  | .invalidFF => Sys2Proof.Machine.execInvalidFF s
  | .invalidCbCbop cbop => Sys2Proof.Machine.execInvalidCbCbop cbop s
  | .invalidWithdrawn op => Sys2Proof.Machine.execInvalidWithdrawn op s

end Sys2Proof.Machine
end

