-- ==== Sys2Proof/WellFormed.lean ====
section
/-! DEFINITION. Which instructions stand in the byte stream on their own, under the table of 30_encoding.md rule R86.
Every operand of `Instr` has exactly the width its encoding gives it, so no operand can be out of range; the checks left
are about the dispatch tables: an entry of the secondary table is reached only through PREFIX CB (rules R88, R90), and
rule R86 withdraws no byte. `Instr.wellFormedIn` of Decode.lean is the check under a narrower table. -/

namespace Sys2Proof

/-- An instruction of the main table of rule R86. The entry of the secondary table has no place in the byte stream of its
own: its two bytes are those of PREFIX CB, which redispatches to it (30_encoding.md rule R88); log entry 2. A withdrawn
byte is one of a narrower table; log entry 1. -/
def Instr.wellFormed : Instr → Bool
  | .invalidCbCbop _ => false
  | .invalidWithdrawn _ => false
  | _ => true

end Sys2Proof
end

