-- ==== Sys2Proof/Decode.lean ====
section
/-! DEFINITION. The decoder, from the opcode grid of 30_encoding.md rule R87, and the encoder, from the bit patterns
of rule R84: the two are written from different tables of the spec, so that they check one another. -/

namespace Sys2Proof

/-! ### The decoder -/

/-- `{hi, lo}` (00_scope.md rule R7). -/
def word16 (hi lo : Byte) : Word := hi ++ lo

/-- An entry of the main table: the instruction, given the two bytes after the opcode. -/
abbrev Entry := Byte → Byte → Instr

/-- Format OP (30_encoding.md rule R81). -/
def fmtOp (i : Instr) : Entry := fun _ _ => i

/-- Format OP_D8, and format CB, whose second byte is `cbop` (30_encoding.md rules R82, R83). -/
def fmtD8 (f : Byte → Instr) : Entry := fun b₁ _ => f b₁

/-- Format OP_D16: low byte first (30_encoding.md rule R83, 20_memory.md rule R62). -/
def fmtD16 (f : Word → Instr) : Entry := fun b₁ b₂ => f (word16 b₂ b₁)

/-- Row 0x of the grid (30_encoding.md rule R87). -/
def gridRow0 : Vector Entry 16 :=
  #v[fmtOp .nop, fmtD16 .ldBcD16, fmtOp .ldAtBcA, fmtOp .invalid03,
     fmtOp .incB, fmtOp .decB, fmtD8 .ldBD8, fmtOp .invalid07,
     fmtOp .invalid08, fmtOp .invalid09, fmtOp .ldAAtBc, fmtOp .invalid0B,
     fmtOp .incC, fmtOp .decC, fmtD8 .ldCD8, fmtOp .invalid0F]

/-- Row 1x of the grid (30_encoding.md rule R87). -/
def gridRow1 : Vector Entry 16 :=
  #v[fmtOp .invalid10, fmtD16 .ldDeD16, fmtOp .ldAtDeA, fmtOp .invalid13,
     fmtOp .incD, fmtOp .decD, fmtD8 .ldDD8, fmtOp .invalid17,
     fmtOp .invalid18, fmtOp .invalid19, fmtOp .ldAAtDe, fmtOp .invalid1B,
     fmtOp .incE, fmtOp .decE, fmtD8 .ldED8, fmtOp .invalid1F]

/-- Row 2x of the grid (30_encoding.md rule R87). -/
def gridRow2 : Vector Entry 16 :=
  #v[fmtOp .invalid20, fmtD16 .ldHlD16, fmtOp .invalid22, fmtOp .invalid23,
     fmtOp .incH, fmtOp .decH, fmtD8 .ldHD8, fmtOp .invalid27,
     fmtOp .invalid28, fmtOp .invalid29, fmtOp .invalid2A, fmtOp .invalid2B,
     fmtOp .incL, fmtOp .decL, fmtD8 .ldLD8, fmtOp .invalid2F]

/-- Row 3x of the grid (30_encoding.md rule R87). -/
def gridRow3 : Vector Entry 16 :=
  #v[fmtOp .invalid30, fmtD16 .ldSpD16, fmtOp .invalid32, fmtOp .invalid33,
     fmtOp .incAtHl, fmtOp .invalid35, fmtD8 .ldAtHlD8, fmtOp .invalid37,
     fmtOp .invalid38, fmtOp .invalid39, fmtOp .invalid3A, fmtOp .invalid3B,
     fmtOp .incA, fmtOp .decA, fmtD8 .ldAD8, fmtOp .invalid3F]

/-- Row 4x of the grid (30_encoding.md rule R87). -/
def gridRow4 : Vector Entry 16 :=
  #v[fmtOp .ldBB, fmtOp .ldBC, fmtOp .ldBD, fmtOp .ldBE,
     fmtOp .ldBH, fmtOp .ldBL, fmtOp .ldBAtHl, fmtOp .ldBA,
     fmtOp .ldCB, fmtOp .ldCC, fmtOp .ldCD, fmtOp .ldCE,
     fmtOp .ldCH, fmtOp .ldCL, fmtOp .ldCAtHl, fmtOp .ldCA]

/-- Row 5x of the grid (30_encoding.md rule R87). -/
def gridRow5 : Vector Entry 16 :=
  #v[fmtOp .ldDB, fmtOp .ldDC, fmtOp .ldDD, fmtOp .ldDE,
     fmtOp .ldDH, fmtOp .ldDL, fmtOp .ldDAtHl, fmtOp .ldDA,
     fmtOp .ldEB, fmtOp .ldEC, fmtOp .ldED, fmtOp .ldEE,
     fmtOp .ldEH, fmtOp .ldEL, fmtOp .ldEAtHl, fmtOp .ldEA]

/-- Row 6x of the grid (30_encoding.md rule R87). -/
def gridRow6 : Vector Entry 16 :=
  #v[fmtOp .ldHB, fmtOp .ldHC, fmtOp .ldHD, fmtOp .ldHE,
     fmtOp .ldHH, fmtOp .ldHL, fmtOp .ldHAtHl, fmtOp .ldHA,
     fmtOp .ldLB, fmtOp .ldLC, fmtOp .ldLD, fmtOp .ldLE,
     fmtOp .ldLH, fmtOp .ldLL, fmtOp .ldLAtHl, fmtOp .ldLA]

/-- Row 7x of the grid (30_encoding.md rule R87). -/
def gridRow7 : Vector Entry 16 :=
  #v[fmtOp .ldAtHlB, fmtOp .ldAtHlC, fmtOp .ldAtHlD, fmtOp .ldAtHlE,
     fmtOp .ldAtHlH, fmtOp .ldAtHlL, fmtOp .halt, fmtOp .ldAtHlA,
     fmtOp .ldAB, fmtOp .ldAC, fmtOp .ldAD, fmtOp .ldAE,
     fmtOp .ldAH, fmtOp .ldAL, fmtOp .ldAAtHl, fmtOp .ldAA]

/-- Row 8x of the grid (30_encoding.md rule R87). -/
def gridRow8 : Vector Entry 16 :=
  #v[fmtOp .addAB, fmtOp .addAC, fmtOp .addAD, fmtOp .addAE,
     fmtOp .addAH, fmtOp .addAL, fmtOp .addAAtHl, fmtOp .addAA,
     fmtOp .invalid88, fmtOp .invalid89, fmtOp .invalid8A, fmtOp .invalid8B,
     fmtOp .invalid8C, fmtOp .invalid8D, fmtOp .invalid8E, fmtOp .invalid8F]

/-- Row 9x of the grid (30_encoding.md rule R87). -/
def gridRow9 : Vector Entry 16 :=
  #v[fmtOp .subB, fmtOp .subC, fmtOp .subD, fmtOp .subE,
     fmtOp .subH, fmtOp .subL, fmtOp .subAtHl, fmtOp .subA,
     fmtOp .invalid98, fmtOp .invalid99, fmtOp .invalid9A, fmtOp .invalid9B,
     fmtOp .invalid9C, fmtOp .invalid9D, fmtOp .invalid9E, fmtOp .invalid9F]

/-- Row Ax of the grid (30_encoding.md rule R87). -/
def gridRowA : Vector Entry 16 :=
  #v[fmtOp .invalidA0, fmtOp .invalidA1, fmtOp .invalidA2, fmtOp .invalidA3,
     fmtOp .invalidA4, fmtOp .invalidA5, fmtOp .invalidA6, fmtOp .invalidA7,
     fmtOp .invalidA8, fmtOp .invalidA9, fmtOp .invalidAA, fmtOp .invalidAB,
     fmtOp .invalidAC, fmtOp .invalidAD, fmtOp .invalidAE, fmtOp .xorA]

/-- Row Bx of the grid (30_encoding.md rule R87). -/
def gridRowB : Vector Entry 16 :=
  #v[fmtOp .invalidB0, fmtOp .invalidB1, fmtOp .invalidB2, fmtOp .invalidB3,
     fmtOp .invalidB4, fmtOp .invalidB5, fmtOp .invalidB6, fmtOp .invalidB7,
     fmtOp .invalidB8, fmtOp .invalidB9, fmtOp .invalidBA, fmtOp .invalidBB,
     fmtOp .invalidBC, fmtOp .invalidBD, fmtOp .invalidBE, fmtOp .invalidBF]

/-- Row Cx of the grid (30_encoding.md rule R87). -/
def gridRowC : Vector Entry 16 :=
  #v[fmtOp .invalidC0, fmtOp .invalidC1, fmtOp .invalidC2, fmtD16 .jpA16,
     fmtOp .invalidC4, fmtOp .invalidC5, fmtOp .invalidC6, fmtOp .invalidC7,
     fmtOp .invalidC8, fmtOp .invalidC9, fmtOp .invalidCA, fmtD8 .prefixCb,
     fmtOp .invalidCC, fmtOp .invalidCD, fmtOp .invalidCE, fmtOp .invalidCF]

/-- Row Dx of the grid (30_encoding.md rule R87). -/
def gridRowD : Vector Entry 16 :=
  #v[fmtOp .invalidD0, fmtOp .invalidD1, fmtOp .invalidD2, fmtOp .invalidD3,
     fmtOp .invalidD4, fmtOp .invalidD5, fmtOp .invalidD6, fmtOp .invalidD7,
     fmtOp .invalidD8, fmtOp .invalidD9, fmtOp .invalidDA, fmtOp .invalidDB,
     fmtOp .invalidDC, fmtOp .invalidDD, fmtOp .invalidDE, fmtOp .invalidDF]

/-- Row Ex of the grid (30_encoding.md rule R87). -/
def gridRowE : Vector Entry 16 :=
  #v[fmtOp .invalidE0, fmtOp .invalidE1, fmtOp .invalidE2, fmtOp .invalidE3,
     fmtOp .invalidE4, fmtOp .invalidE5, fmtOp .invalidE6, fmtOp .invalidE7,
     fmtOp .invalidE8, fmtOp .invalidE9, fmtD16 .ldAtA16A, fmtOp .invalidEB,
     fmtOp .invalidEC, fmtOp .invalidED, fmtOp .invalidEE, fmtOp .invalidEF]

/-- Row Fx of the grid (30_encoding.md rule R87). -/
def gridRowF : Vector Entry 16 :=
  #v[fmtOp .invalidF0, fmtOp .invalidF1, fmtOp .invalidF2, fmtOp .invalidF3,
     fmtOp .invalidF4, fmtOp .invalidF5, fmtOp .invalidF6, fmtOp .invalidF7,
     fmtOp .invalidF8, fmtOp .invalidF9, fmtD16 .ldAAtA16, fmtOp .invalidFB,
     fmtOp .invalidFC, fmtOp .invalidFD, fmtOp .invalidFE, fmtOp .invalidFF]

/-- The main table: 256 entries, as the 16 by 16 grid of 30_encoding.md rule R87, fixed at construction (10_state.md
rule R31; 30_encoding.md rules R86, R89). A narrower table in its place is `entryIn`. -/
def mainTable : Vector (Vector Entry 16) 16 :=
  #v[gridRow0, gridRow1, gridRow2, gridRow3, gridRow4, gridRow5, gridRow6, gridRow7,
     gridRow8, gridRow9, gridRowA, gridRowB, gridRowC, gridRowD, gridRowE, gridRowF]

/-- The main table's entry for an opcode byte, row its high nibble and column its low nibble, with its operands taken from
the two bytes that follow. Total: every byte has one entry (10_state.md rule R31). -/
def decodeMain (op b₁ b₂ : Byte) : Instr :=
  ((mainTable[op.toNat / 16]'(by have := op.isLt; omega))[op.toNat % 16]'(Nat.mod_lt _ (by decide))) b₁ b₂

/-- The secondary table: every entry is INVALID (30_encoding.md rule R90). -/
def decodeSecondary (cbop : Byte) : Instr := .invalidCbCbop cbop

/-- The opcodes of three-byte instructions (30_encoding.md rule R91). -/
def opcodesLength3 : List Byte := [0x01, 0x11, 0x21, 0x31, 0xC3, 0xEA, 0xFA]

/-- The opcodes of two-byte instructions (30_encoding.md rule R91). -/
def opcodesLength2 : List Byte := [0x06, 0x0E, 0x16, 0x1E, 0x26, 0x2E, 0x36, 0x3E, 0xCB]

/-- `length(op)` at the table of rule R86 (30_encoding.md rule R91). -/
def instrLength (op : Byte) : Nat :=
  if op ∈ opcodesLength3 then 3 else if op ∈ opcodesLength2 then 2 else 1

/-! ### The encoder -/

/-- The register index (10_state.md rule R24). -/
def Reg8.code : Reg8 → BitVec 3
  | .b => 0 | .c => 1 | .d => 2 | .e => 3 | .h => 4 | .l => 5 | .a => 7

/-- The register-pair index (10_state.md rule R25). -/
def RegPair.code : RegPair → BitVec 2
  | .bc => 0 | .de => 1 | .hl => 2 | .sp => 3

/-- The instruction shapes with their parameters (30_encoding.md rule R86, split as its rules split them). -/
inductive Shape where
  | nop
  | ldRrD16 (p : RegPair) (d16 : Word)
  | incR (y : Reg8)
  | decR (y : Reg8)
  | incAtHl
  | ldRD8 (y : Reg8) (d8 : Byte)
  | ldAtHlD8 (d8 : Byte)
  | addAR (z : Reg8)
  | addAAtHl
  | subR (z : Reg8)
  | subAtHl
  | xorA
  | jpA16 (a16 : Word)
  | halt
  | prefixCb (cbop : Byte)
  | ldRR (y z : Reg8)
  | ldRAtHl (y : Reg8)
  | ldAtHlR (z : Reg8)
  | ldAAtRr (p : RegPair)
  | ldAtRrA (p : RegPair)
  | ldAAtA16 (a16 : Word)
  | ldAtA16A (a16 : Word)
  | invalid (op : Byte)
  | invalidCb (cbop : Byte)
  deriving DecidableEq, Repr

/-- The shape of each instruction, with the registers its name gives it (30_encoding.md rules R86, R89, R90). -/
def Instr.shape : Instr → Shape
  | .nop => .nop
  | .ldBcD16 d16 => .ldRrD16 .bc d16
  | .ldAtBcA => .ldAtRrA .bc
  | .invalid03 => .invalid 0x03
  | .incB => .incR .b
  | .decB => .decR .b
  | .ldBD8 d8 => .ldRD8 .b d8
  | .invalid07 => .invalid 0x07
  | .invalid08 => .invalid 0x08
  | .invalid09 => .invalid 0x09
  | .ldAAtBc => .ldAAtRr .bc
  | .invalid0B => .invalid 0x0B
  | .incC => .incR .c
  | .decC => .decR .c
  | .ldCD8 d8 => .ldRD8 .c d8
  | .invalid0F => .invalid 0x0F
  | .invalid10 => .invalid 0x10
  | .ldDeD16 d16 => .ldRrD16 .de d16
  | .ldAtDeA => .ldAtRrA .de
  | .invalid13 => .invalid 0x13
  | .incD => .incR .d
  | .decD => .decR .d
  | .ldDD8 d8 => .ldRD8 .d d8
  | .invalid17 => .invalid 0x17
  | .invalid18 => .invalid 0x18
  | .invalid19 => .invalid 0x19
  | .ldAAtDe => .ldAAtRr .de
  | .invalid1B => .invalid 0x1B
  | .incE => .incR .e
  | .decE => .decR .e
  | .ldED8 d8 => .ldRD8 .e d8
  | .invalid1F => .invalid 0x1F
  | .invalid20 => .invalid 0x20
  | .ldHlD16 d16 => .ldRrD16 .hl d16
  | .invalid22 => .invalid 0x22
  | .invalid23 => .invalid 0x23
  | .incH => .incR .h
  | .decH => .decR .h
  | .ldHD8 d8 => .ldRD8 .h d8
  | .invalid27 => .invalid 0x27
  | .invalid28 => .invalid 0x28
  | .invalid29 => .invalid 0x29
  | .invalid2A => .invalid 0x2A
  | .invalid2B => .invalid 0x2B
  | .incL => .incR .l
  | .decL => .decR .l
  | .ldLD8 d8 => .ldRD8 .l d8
  | .invalid2F => .invalid 0x2F
  | .invalid30 => .invalid 0x30
  | .ldSpD16 d16 => .ldRrD16 .sp d16
  | .invalid32 => .invalid 0x32
  | .invalid33 => .invalid 0x33
  | .incAtHl => .incAtHl
  | .invalid35 => .invalid 0x35
  | .ldAtHlD8 d8 => .ldAtHlD8 d8
  | .invalid37 => .invalid 0x37
  | .invalid38 => .invalid 0x38
  | .invalid39 => .invalid 0x39
  | .invalid3A => .invalid 0x3A
  | .invalid3B => .invalid 0x3B
  | .incA => .incR .a
  | .decA => .decR .a
  | .ldAD8 d8 => .ldRD8 .a d8
  | .invalid3F => .invalid 0x3F
  | .ldBB => .ldRR .b .b
  | .ldBC => .ldRR .b .c
  | .ldBD => .ldRR .b .d
  | .ldBE => .ldRR .b .e
  | .ldBH => .ldRR .b .h
  | .ldBL => .ldRR .b .l
  | .ldBAtHl => .ldRAtHl .b
  | .ldBA => .ldRR .b .a
  | .ldCB => .ldRR .c .b
  | .ldCC => .ldRR .c .c
  | .ldCD => .ldRR .c .d
  | .ldCE => .ldRR .c .e
  | .ldCH => .ldRR .c .h
  | .ldCL => .ldRR .c .l
  | .ldCAtHl => .ldRAtHl .c
  | .ldCA => .ldRR .c .a
  | .ldDB => .ldRR .d .b
  | .ldDC => .ldRR .d .c
  | .ldDD => .ldRR .d .d
  | .ldDE => .ldRR .d .e
  | .ldDH => .ldRR .d .h
  | .ldDL => .ldRR .d .l
  | .ldDAtHl => .ldRAtHl .d
  | .ldDA => .ldRR .d .a
  | .ldEB => .ldRR .e .b
  | .ldEC => .ldRR .e .c
  | .ldED => .ldRR .e .d
  | .ldEE => .ldRR .e .e
  | .ldEH => .ldRR .e .h
  | .ldEL => .ldRR .e .l
  | .ldEAtHl => .ldRAtHl .e
  | .ldEA => .ldRR .e .a
  | .ldHB => .ldRR .h .b
  | .ldHC => .ldRR .h .c
  | .ldHD => .ldRR .h .d
  | .ldHE => .ldRR .h .e
  | .ldHH => .ldRR .h .h
  | .ldHL => .ldRR .h .l
  | .ldHAtHl => .ldRAtHl .h
  | .ldHA => .ldRR .h .a
  | .ldLB => .ldRR .l .b
  | .ldLC => .ldRR .l .c
  | .ldLD => .ldRR .l .d
  | .ldLE => .ldRR .l .e
  | .ldLH => .ldRR .l .h
  | .ldLL => .ldRR .l .l
  | .ldLAtHl => .ldRAtHl .l
  | .ldLA => .ldRR .l .a
  | .ldAtHlB => .ldAtHlR .b
  | .ldAtHlC => .ldAtHlR .c
  | .ldAtHlD => .ldAtHlR .d
  | .ldAtHlE => .ldAtHlR .e
  | .ldAtHlH => .ldAtHlR .h
  | .ldAtHlL => .ldAtHlR .l
  | .halt => .halt
  | .ldAtHlA => .ldAtHlR .a
  | .ldAB => .ldRR .a .b
  | .ldAC => .ldRR .a .c
  | .ldAD => .ldRR .a .d
  | .ldAE => .ldRR .a .e
  | .ldAH => .ldRR .a .h
  | .ldAL => .ldRR .a .l
  | .ldAAtHl => .ldRAtHl .a
  | .ldAA => .ldRR .a .a
  | .addAB => .addAR .b
  | .addAC => .addAR .c
  | .addAD => .addAR .d
  | .addAE => .addAR .e
  | .addAH => .addAR .h
  | .addAL => .addAR .l
  | .addAAtHl => .addAAtHl
  | .addAA => .addAR .a
  | .invalid88 => .invalid 0x88
  | .invalid89 => .invalid 0x89
  | .invalid8A => .invalid 0x8A
  | .invalid8B => .invalid 0x8B
  | .invalid8C => .invalid 0x8C
  | .invalid8D => .invalid 0x8D
  | .invalid8E => .invalid 0x8E
  | .invalid8F => .invalid 0x8F
  | .subB => .subR .b
  | .subC => .subR .c
  | .subD => .subR .d
  | .subE => .subR .e
  | .subH => .subR .h
  | .subL => .subR .l
  | .subAtHl => .subAtHl
  | .subA => .subR .a
  | .invalid98 => .invalid 0x98
  | .invalid99 => .invalid 0x99
  | .invalid9A => .invalid 0x9A
  | .invalid9B => .invalid 0x9B
  | .invalid9C => .invalid 0x9C
  | .invalid9D => .invalid 0x9D
  | .invalid9E => .invalid 0x9E
  | .invalid9F => .invalid 0x9F
  | .invalidA0 => .invalid 0xA0
  | .invalidA1 => .invalid 0xA1
  | .invalidA2 => .invalid 0xA2
  | .invalidA3 => .invalid 0xA3
  | .invalidA4 => .invalid 0xA4
  | .invalidA5 => .invalid 0xA5
  | .invalidA6 => .invalid 0xA6
  | .invalidA7 => .invalid 0xA7
  | .invalidA8 => .invalid 0xA8
  | .invalidA9 => .invalid 0xA9
  | .invalidAA => .invalid 0xAA
  | .invalidAB => .invalid 0xAB
  | .invalidAC => .invalid 0xAC
  | .invalidAD => .invalid 0xAD
  | .invalidAE => .invalid 0xAE
  | .xorA => .xorA
  | .invalidB0 => .invalid 0xB0
  | .invalidB1 => .invalid 0xB1
  | .invalidB2 => .invalid 0xB2
  | .invalidB3 => .invalid 0xB3
  | .invalidB4 => .invalid 0xB4
  | .invalidB5 => .invalid 0xB5
  | .invalidB6 => .invalid 0xB6
  | .invalidB7 => .invalid 0xB7
  | .invalidB8 => .invalid 0xB8
  | .invalidB9 => .invalid 0xB9
  | .invalidBA => .invalid 0xBA
  | .invalidBB => .invalid 0xBB
  | .invalidBC => .invalid 0xBC
  | .invalidBD => .invalid 0xBD
  | .invalidBE => .invalid 0xBE
  | .invalidBF => .invalid 0xBF
  | .invalidC0 => .invalid 0xC0
  | .invalidC1 => .invalid 0xC1
  | .invalidC2 => .invalid 0xC2
  | .jpA16 a16 => .jpA16 a16
  | .invalidC4 => .invalid 0xC4
  | .invalidC5 => .invalid 0xC5
  | .invalidC6 => .invalid 0xC6
  | .invalidC7 => .invalid 0xC7
  | .invalidC8 => .invalid 0xC8
  | .invalidC9 => .invalid 0xC9
  | .invalidCA => .invalid 0xCA
  | .prefixCb cbop => .prefixCb cbop
  | .invalidCC => .invalid 0xCC
  | .invalidCD => .invalid 0xCD
  | .invalidCE => .invalid 0xCE
  | .invalidCF => .invalid 0xCF
  | .invalidD0 => .invalid 0xD0
  | .invalidD1 => .invalid 0xD1
  | .invalidD2 => .invalid 0xD2
  | .invalidD3 => .invalid 0xD3
  | .invalidD4 => .invalid 0xD4
  | .invalidD5 => .invalid 0xD5
  | .invalidD6 => .invalid 0xD6
  | .invalidD7 => .invalid 0xD7
  | .invalidD8 => .invalid 0xD8
  | .invalidD9 => .invalid 0xD9
  | .invalidDA => .invalid 0xDA
  | .invalidDB => .invalid 0xDB
  | .invalidDC => .invalid 0xDC
  | .invalidDD => .invalid 0xDD
  | .invalidDE => .invalid 0xDE
  | .invalidDF => .invalid 0xDF
  | .invalidE0 => .invalid 0xE0
  | .invalidE1 => .invalid 0xE1
  | .invalidE2 => .invalid 0xE2
  | .invalidE3 => .invalid 0xE3
  | .invalidE4 => .invalid 0xE4
  | .invalidE5 => .invalid 0xE5
  | .invalidE6 => .invalid 0xE6
  | .invalidE7 => .invalid 0xE7
  | .invalidE8 => .invalid 0xE8
  | .invalidE9 => .invalid 0xE9
  | .ldAtA16A a16 => .ldAtA16A a16
  | .invalidEB => .invalid 0xEB
  | .invalidEC => .invalid 0xEC
  | .invalidED => .invalid 0xED
  | .invalidEE => .invalid 0xEE
  | .invalidEF => .invalid 0xEF
  | .invalidF0 => .invalid 0xF0
  | .invalidF1 => .invalid 0xF1
  | .invalidF2 => .invalid 0xF2
  | .invalidF3 => .invalid 0xF3
  | .invalidF4 => .invalid 0xF4
  | .invalidF5 => .invalid 0xF5
  | .invalidF6 => .invalid 0xF6
  | .invalidF7 => .invalid 0xF7
  | .invalidF8 => .invalid 0xF8
  | .invalidF9 => .invalid 0xF9
  | .ldAAtA16 a16 => .ldAAtA16 a16
  | .invalidFB => .invalid 0xFB
  | .invalidFC => .invalid 0xFC
  | .invalidFD => .invalid 0xFD
  | .invalidFE => .invalid 0xFE
  | .invalidFF => .invalid 0xFF
  | .invalidCbCbop cbop => .invalidCb cbop
  | .invalidWithdrawn op => .invalid op

/-- The opcode byte, bit 7 first, from the patterns of 30_encoding.md rule R84. -/
def Shape.opcode : Shape → Byte
  | .nop => 0b00000000#8
  | .ldRrD16 p _ => 0b00#2 ++ p.code ++ 0b0001#4
  | .ldAtRrA p => 0b000#3 ++ p.code.extractLsb' 0 1 ++ 0b0010#4
  | .ldAAtRr p => 0b000#3 ++ p.code.extractLsb' 0 1 ++ 0b1010#4
  | .incR y => 0b00#2 ++ y.code ++ 0b100#3
  | .incAtHl => 0b00110100#8
  | .decR y => 0b00#2 ++ y.code ++ 0b101#3
  | .ldRD8 y _ => 0b00#2 ++ y.code ++ 0b110#3
  | .ldAtHlD8 _ => 0b00110110#8
  | .ldRR y z => 0b01#2 ++ y.code ++ z.code
  | .ldRAtHl y => 0b01#2 ++ y.code ++ 0b110#3
  | .ldAtHlR z => 0b01110#5 ++ z.code
  | .halt => 0b01110110#8
  | .addAR z => 0b10000#5 ++ z.code
  | .addAAtHl => 0b10000110#8
  | .subR z => 0b10010#5 ++ z.code
  | .subAtHl => 0b10010110#8
  | .xorA => 0b10101111#8
  | .jpA16 _ => 0b11000011#8
  | .prefixCb _ => 0b11001011#8
  | .ldAtA16A _ => 0b11101010#8
  | .ldAAtA16 _ => 0b11111010#8
  | .invalid op => op
  | .invalidCb _ => 0b11001011#8

/-- The two bytes of a 16-bit immediate, low byte first (30_encoding.md rule R83). -/
def wordBytes (w : Word) : List Byte := [w.extractLsb' 0 8, w.extractLsb' 8 8]

/-- The bytes after the opcode byte (30_encoding.md rules R80 to R83). -/
def Shape.operandBytes : Shape → List Byte
  | .ldRrD16 _ d16 => wordBytes d16
  | .jpA16 a16 => wordBytes a16
  | .ldAAtA16 a16 => wordBytes a16
  | .ldAtA16A a16 => wordBytes a16
  | .ldRD8 _ d8 => [d8]
  | .ldAtHlD8 d8 => [d8]
  | .prefixCb cbop => [cbop]
  | .invalidCb cbop => [cbop]
  | .nop => []
  | .incR _ => []
  | .decR _ => []
  | .incAtHl => []
  | .addAR _ => []
  | .addAAtHl => []
  | .subR _ => []
  | .subAtHl => []
  | .xorA => []
  | .halt => []
  | .ldRR _ _ => []
  | .ldRAtHl _ => []
  | .ldAtHlR _ => []
  | .ldAAtRr _ => []
  | .ldAtRrA _ => []
  | .invalid _ => []

/-- The length in bytes: the column `instr_len` of 70_reset_and_hazards.md rule R180. -/
def Shape.length : Shape → Nat
  | .nop => 1
  | .ldRrD16 _ _ => 3
  | .incR _ => 1
  | .decR _ => 1
  | .incAtHl => 1
  | .ldRD8 _ _ => 2
  | .ldAtHlD8 _ => 2
  | .addAR _ => 1
  | .addAAtHl => 1
  | .subR _ => 1
  | .subAtHl => 1
  | .xorA => 1
  | .jpA16 _ => 3
  | .halt => 1
  | .prefixCb _ => 2
  | .ldRR _ _ => 1
  | .ldRAtHl _ => 1
  | .ldAtHlR _ => 1
  | .ldAAtRr _ => 1
  | .ldAtRrA _ => 1
  | .ldAAtA16 _ => 3
  | .ldAtA16A _ => 3
  | .invalid _ => 1
  | .invalidCb _ => 2

/-- The opcode byte of an instruction. -/
def Instr.opcode (i : Instr) : Byte := i.shape.opcode

/-- The bytes of an instruction. -/
def encode (i : Instr) : List Byte := i.opcode :: i.shape.operandBytes

/-! ### The decode table as configuration

92_eei_decisions.md D1 (93_implementation_defined.md U17) makes the assignment of 30_encoding.md rule R86 configuration,
so that a narrower table can be substituted: one that leaves bytes INVALID which R86 assigns. A table is said by the list
of bytes it withdraws; the empty list is the table of R86. Log entry 1. -/

/-- The opcode bytes the source itself names (30_encoding.md, its warning to the reader): every table assigns them. -/
def sourceOpcodes : List Byte := [0x06, 0x3E, 0x76, 0xC3, 0xCB]

/-- Does rule R86 assign the byte to a shape other than INVALID? -/
def isAssigned (op : Byte) : Bool := decide ((decodeMain op 0 0).shape ≠ .invalid op)

/-- Does the table that withdraws the bytes `w` leave this byte INVALID, where rule R86 assigns it? -/
def isWithdrawn (w : List Byte) (op : Byte) : Bool := w.contains op && (isAssigned op && !sourceOpcodes.contains op)

/-- The entry of an opcode byte in the table that withdraws `w` (10_state.md rule R31, 30_encoding.md rule R89). -/
def entryIn (w : List Byte) (op b₁ b₂ : Byte) : Instr :=
  if isWithdrawn w op then .invalidWithdrawn op else decodeMain op b₁ b₂

/-- `length(op)` in the table that withdraws `w`: INVALID has length 1 (30_encoding.md rule R91). -/
def lengthIn (w : List Byte) (op : Byte) : Nat := if isWithdrawn w op then 1 else instrLength op

/-- The instructions that stand in the byte stream under the table that withdraws `w`. -/
def Instr.wellFormedIn (w : List Byte) : Instr → Bool
  | .invalidWithdrawn op => isWithdrawn w op
  | i => i.wellFormed && !isWithdrawn w i.opcode

/-- Why a list of bytes holds no instruction. An opcode alone is never the reason: every opcode has an entry. -/
inductive DecodeError where
  /-- The list is empty. -/
  | noBytes
  /-- The list ends before the operand bytes that the opcode calls for. -/
  | truncated (op : Byte)
  deriving DecidableEq, Repr

/-- Decode the instruction at the head of a list of bytes, under the table that withdraws `w`, and give the bytes after
it. -/
def decodeIn (w : List Byte) : List Byte → Except DecodeError (Instr × List Byte)
  | [] => .error .noBytes
  | op :: rest =>
    if rest.length + 1 < lengthIn w op then .error (.truncated op)
    else .ok (entryIn w op (rest.getD 0 0) (rest.getD 1 0), rest.drop (lengthIn w op - 1))

/-- Decode under the table of rule R86. -/
def decode (bytes : List Byte) : Except DecodeError (Instr × List Byte) := decodeIn [] bytes

/-! ### The opcode table's own numbering of bits -/

/-- Is `w` a word of the table's one 16-bit row, INVALID_CB cbop? That row is numbered over `{byte 0, byte 1}`, so its
byte 0, which is 0xCB, is bits 15:8 (spec/opcode_table.json, the row's "src"); log entry 2. -/
def isSecondaryWord (nbits w : Nat) : Bool := nbits == 16 && w / 256 % 256 == 0xCB

/-- The bytes of a table word: bit 0 is the least significant bit of the first byte, and every bit from `nbits` up is
zero. The secondary table's row alone is numbered the other way round. -/
def tableBytes (nbits w : Nat) : List Byte :=
  if isSecondaryWord nbits w then [0xCB, BitVec.ofNat 8 w, 0]
  else
    let v := w % 2 ^ nbits
    [BitVec.ofNat 8 v, BitVec.ofNat 8 (v / 256), BitVec.ofNat 8 (v / 65536)]

/-- What the decoder reads from a table word: the row of the secondary table through the secondary table, every other
row through the main one. -/
def decodeTableWord (nbits w : Nat) : Option Instr :=
  if isSecondaryWord nbits w then some (decodeSecondary (BitVec.ofNat 8 w))
  else
    match decode (tableBytes nbits w) with
    | .ok (i, _) => some i
    | .error _ => none

end Sys2Proof
end

