-- ==== Sys2Proof/Machine/Fetch.lean ====
section
/-! DEFINITION. What a step does around the instruction: fetching and decoding at PC (42_control.md rule R140),
disassembly (60_exceptions.md rule R165), the trace snapshot (rule R160), the report (rule R161) and the cycle count
(rule R157); and placing an instruction's bytes where the next fetch reads them. -/

namespace Sys2Proof.Machine

/-- The three bytes from `addr` up, wrapping at 0xFFFF (10_state.md rule R27). Reads have no side effect
(20_memory.md rule R65), so reading bytes the instruction does not use changes nothing. -/
def bytesAt (addr : Word) (s : State) : List Byte :=
  [memRead addr s, memRead (addr + 1) s, memRead (addr + 2) s]

/-- The opcode byte the step fetches (42_control.md rule R140). -/
def fetchedOpcode (s : State) : Byte := memRead s.pc s

/-- The instruction at PC, with its operands (42_control.md rule R140). -/
def fetchInstr (s : State) : Instr :=
  entryIn s.withdrawn (memRead s.pc s) (memRead (s.pc + 1) s) (memRead (s.pc + 2) s)

/-- The length of the instruction at PC (30_encoding.md rule R91). -/
def fetchedLength (s : State) : Nat := lengthIn s.withdrawn (fetchedOpcode s)

/-- `disassembleAt(address)` without its text: the length and the bytes (60_exceptions.md rule R165). -/
def disassembleAt (addr : Word) (s : State) : Nat × List Byte :=
  let n := lengthIn s.withdrawn (memRead addr s)
  (n, (bytesAt addr s).take n)

/-- The bytes the instruction at PC consumes. -/
def ownBytes (s : State) : List Byte := (bytesAt s.pc s).take (fetchedLength s)

/-- The trace by re-disassembling at `pc0` (60_exceptions.md rule R160). The operand slot of a one-byte instruction is a
free value (log entry 8). -/
def rereadTrace (pc₀ : Word) (s : State) : Trace :=
  let n := lengthIn s.withdrawn (memRead pc₀ s)
  { pc := pc₀
    opcode := memRead pc₀ s
    length := n
    bytes := (disassembleAt pc₀ s).2
    operand :=
      if n = 3 then word16 (memRead (pc₀ + 2) s) (memRead (pc₀ + 1) s)
      else if n = 2 then word16 0 (memRead (pc₀ + 1) s)
      else Config.unusedOperand s.freeCount }

/-- The trace of an instruction that overwrote its own bytes: any value in every field but `pc`
(93_implementation_defined.md U6); log entry 9. -/
def overwrittenTrace (pc₀ : Word) (k : Nat) : Trace where
  pc := pc₀
  opcode := Config.overwrittenOpcode k
  length := Config.overwrittenLength k
  bytes := Config.overwrittenBytes k
  operand := Config.overwrittenOperand k

/-- `snapshot(pc0)` on the state the instruction left (60_exceptions.md rule R160): `own` are the bytes it consumed, as
they were when it was fetched. -/
def snapshot (pc₀ : Word) (own : List Byte) (s : State) : Trace :=
  if (bytesAt pc₀ s).take own.length = own then rereadTrace pc₀ s else overwrittenTrace pc₀ s.freeCount

/-- The end of a step, after the instruction: trace, cycle count, report (42_control.md rule R140). `pc₀`, `op` and `own`
are the address, the opcode byte and the instruction's bytes this step fetched. -/
def endStep (pc₀ : Word) (op : Byte) (own : List Byte) (s : State) : State :=
  { s with
    trace := snapshot pc₀ own s
    totalCycles := s.totalCycles + s.instrCycles
    report := some { opcode := op, cycles := s.instrCycles }
    freeCount := s.freeCount + 1 }

/-! ### Placing an instruction for the next fetch -/

/-- A byte sequence with the byte at an index replaced, grown with fill bytes up to it where it is too short: the
bytes beyond the end of a cartridge read as the fill value already (20_memory.md rule R52). -/
def patchBytes : List Byte → Nat → Byte → List Byte
  | [], 0, v => [v]
  | [], k + 1, v => Config.fill :: patchBytes [] k v
  | _ :: bytes, 0, v => v :: bytes
  | b :: bytes, k + 1, v => b :: patchBytes bytes k v

/-- Does an address have storage, so that a byte placed there is the byte fetched there? -/
def hasStorage (addr : Word) : Bool :=
  match handlerOf addr with
  | .cartridge _ => true
  | .workRam _ => true
  | .highRam _ => true
  | .interruptEnable => true
  | .videoRam => false
  | .externalRam => false
  | .objectMemory => false
  | .prohibited => false
  | .ioRegisters => false

/-- Place a byte: what the loader does to the cartridge before a run (20_memory.md rule R71), and what a store does to
WRAM, HRAM and IE. -/
def placeByte (addr : Word) (v : Byte) (s : State) : State :=
  match handlerOf addr with
  | .cartridge k => { s with bus := { s.bus with cart := some (patchBytes (s.bus.cart.getD []) k v) } }
  | _ => memWrite addr v s

/-- Place bytes from an address up. -/
def placeBytes : Word → List Byte → State → State
  | _, [], s => s
  | addr, v :: bytes, s => placeBytes (addr + 1) bytes (placeByte addr v s)

/-- PC where three bytes can be placed: PC itself, or the default entry point where one of the three addresses is a
stub, which can hold no instruction (log entry 25). -/
def placeablePc (s : State) : Word :=
  if hasStorage s.pc && hasStorage (s.pc + 1) && hasStorage (s.pc + 2) then s.pc else Config.pcInitDefault

/-- The decode table with an opcode byte as rule R86 assigns it. -/
def assignByte (op : Byte) (w : List Byte) : List Byte := w.filter (· ≠ op)

/-- Place an instruction where the next step fetches, and have the decode table assign its opcode byte. -/
def placeAtPc (bytes : List Byte) (s : State) : State :=
  placeBytes (placeablePc s) bytes
    { s with pc := placeablePc s, withdrawn := assignByte (bytes.headD 0) s.withdrawn }

end Sys2Proof.Machine
end

