-- ==== Sys2Proof/Machine/Eei.lean ====
section
/-! DEFINITION. The operations of the execution environment that change state between steps (60_exceptions.md rule
R164, 20_memory.md rule R71). They are no instructions and no step performs them. -/

namespace Sys2Proof.Machine

/-- `reset()`, both halves (70_reset_and_hazards.md rule R170): IE, CART and the decode table are
kept, and so is the parameter CYCLES. `instr_len` is unspecified afterwards, a free value (log entries 6, 26). -/
def systemReset (pcInit : Word) (s : State) : State :=
  { State.launch
      { cart := s.bus.cart, pcInit := pcInit, ieInit := s.bus.ie, cycles := s.cycles,
        withdrawn := s.withdrawn, instrLenInit := (Config.unspecifiedInstrLen s.freeCount).val } with
    freeCount := s.freeCount + 1 }

/-- `connectCartridge` and `loadFromBytes`: replace the cartridge, or detach it with `none`, before a run
(20_memory.md rule R71); log entry 14. -/
def connectCartridge (cart : Option (List Byte)) (s : State) : State :=
  { s with bus := { s.bus with cart := cart } }

end Sys2Proof.Machine
end

