-- ==== Sys2Proof/Machine/Step.lean ====
section
/-! DEFINITION. One step (42_control.md rule R140). -/

namespace Sys2Proof.Machine

/-- Fetch and decode at PC, execute, then trace, accumulate and report (42_control.md rule R140). -/
def step (s : State) : Host.Outcome State Fault Refusal :=
  match exec (fetchInstr s) s with
  | .next t => .next (endStep s.pc (fetchedOpcode s) (ownBytes s) t)
  | .fault r => .fault r
  | .refused r => .refused r

/-- The state in which the next step fetches the instruction of an opcode table word; log entry 25. -/
def State.withFetchWord (s : State) (nbits w : Nat) : State := placeAtPc (tableBytes nbits w) s

end Sys2Proof.Machine
end

