-- ==== Sys2Proof/Safety.lean ====
section
/-! DEFINITION. What claims about runs are stated in: the final state, the sticky diagnostic, the invariant. -/

namespace Sys2Proof.Machine

/-- The next step would execute HALT (70_reset_and_hazards.md rule R174). -/
def State.isFinal (s : State) : Bool := memRead s.pc s == 0x76

/-- The sticky flag `diag_seen`: some diagnostic was emitted since reset (60_exceptions.md rule R162). -/
def State.diagSeen (s : State) : Bool := !s.diags.isEmpty

/-- The invariant of every step: F[3:0] is zero (10_state.md rule R21); WRAM and HRAM are in canonical form and list no
index the arrays lack (rules R32, R33); `instr_len` is 0 to 3 (section 1). The trace is in no clause: after an
instruction that overwrote its own bytes it may hold anything (log entry 9). -/
structure State.Inv (s : State) : Prop where
  flagLow : (readF s).extractLsb' 0 4 = 0
  wramWf : s.bus.wram.wf = true
  wramWithin : s.bus.wram.within Config.wramSize = true
  hramWf : s.bus.hram.wf = true
  hramWithin : s.bus.hram.within Config.hramSize = true
  instrLenLe : s.instrLen ≤ 3

/-- A run of `n` steps that ends in `t` with no diagnostic since reset: the premise 60_exceptions.md rule R162
recommends for claims about programs. -/
def SafeRun (n : Nat) (s t : State) : Prop := core.run n s = .next t ∧ t.diagSeen = false

end Sys2Proof.Machine
end

