-- ==== Sys2Proof/Certificates/Slice0/Obligations.lean ====
section
/-! DEFINITION. The statements for the provers. `Sys2Proof.Claim` holds the words they share. A statement about a form
names the constructors through `Instr.shape`, which gives each constructor its shape and registers (30_encoding.md rule
R86); `DecodeOfEncodedInstruction` ties a shape's opcode pattern to the decoder. -/

namespace Sys2Proof.Claim

open Sys2Proof.Machine

/-- What an instruction's own effect never writes: the count, the trace and the report belong to the end of the step;
CART, CYCLES and the decode table are parameters; `freeCount` is the model's own. -/
def Aside (s t : State) : Prop :=
  t.totalCycles = s.totalCycles ∧ t.trace = s.trace ∧ t.report = s.report ∧ t.cycles = s.cycles ∧
  t.bus.cart = s.bus.cart ∧ t.withdrawn = s.withdrawn ∧ t.freeCount = s.freeCount

/-- Every 8-bit register but those listed, and SP, is unchanged. -/
def KeepsRegs (except : List Reg8) (s t : State) : Prop :=
  (∀ q, q ∉ except → readReg q t = readReg q s) ∧ t.sp = s.sp

/-- The whole flag byte is unchanged. -/
def KeepsFlags (s t : State) : Prop := readF t = readF s

/-- F[3:0] is unchanged: a flag write touches its own bit only. -/
def KeepsLowF (s t : State) : Prop := (readF t).extractLsb' 0 4 = (readF s).extractLsb' 0 4

/-- Every byte of the address space reads as before. -/
def KeepsMemory (s t : State) : Prop := ∀ b, memRead b t = memRead b s

/-- PC moves past `n` bytes, `instr_len` is `n`, `instr_cycles` is the parameter's `cost`, by default `dflt`. -/
def Ends (n cost dflt : Nat) (s t : State) : Prop :=
  t.pc.toNat = (s.pc.toNat + n) % 65536 ∧ t.instrLen = n ∧ t.instrCycles = cost ∧
  (s.cycles = defaultCycles → t.instrCycles = dflt)

/-- The instruction's bytes: the opcode byte, as a number, then the operand bytes (30_encoding.md rules R80 to R83). -/
def Encoded (i : Instr) (op : Nat) (operands : List Byte) : Prop := encode i = BitVec.ofNat 8 op :: operands

/-- Addresses at which a write lands: WRAM, its mirror, HRAM and IE (20_memory.md rule R51). -/
def Writable (a : Word) : Prop := (0xC000 ≤ a.toNat ∧ a.toNat ≤ 0xFDFF) ∨ 0xFF80 ≤ a.toNat

/-- Two addresses that name the same byte: the same address, or an address of WRAM and its mirror address
(20_memory.md rule R56). -/
def SameByte (a b : Word) : Prop :=
  b = a ∨
  (0xC000 ≤ a.toNat ∧ a.toNat ≤ 0xDDFF ∧ b.toNat = a.toNat + 0x2000) ∨
  (0xE000 ≤ a.toNat ∧ a.toNat ≤ 0xFDFF ∧ b.toNat + 0x2000 = a.toNat)

/-- The store of one byte at `a`: where writes land, every address that names the stored byte reads it back; every other
address reads as before; where writes do not land, every address does. -/
def Stores (a : Word) (v : Byte) (s t : State) : Prop :=
  (Writable a → ∀ b, SameByte a b → memRead b t = v) ∧
  (∀ b, ¬ (Writable a ∧ SameByte a b) → memRead b t = memRead b s)

/-- The frame of a form that writes the registers listed, and neither SP, memory nor a diagnostic. -/
def RegisterFrame (except : List Reg8) (s t : State) : Prop :=
  KeepsRegs except s t ∧ KeepsMemory s t ∧ t.diags = s.diags ∧ Aside s t

/-- The frame of a form that stores a byte: no register, no flag, no diagnostic. -/
def StoreFrame (s t : State) : Prop := KeepsRegs [] s t ∧ t.diags = s.diags ∧ Aside s t

/-- INVALID at the opcode byte `op`: one byte, four cycles, one diagnostic, nothing else (42_control.md rule R146). -/
def RunsAsInvalid (i : Instr) (op : Byte) (s : State) : Prop :=
  Encoded i op.toNat [] ∧ ∃ t, exec i s = .next t ∧ Ends 1 4 4 s t ∧ t.diags = .invalidOpcode s.pc op :: s.diags ∧
  KeepsFlags s t ∧ KeepsRegs [] s t ∧ KeepsMemory s t ∧ Aside s t

/-- The flags of an addition of exact operands (40_alu8.md rule R103). -/
def AddFlags (a b : Nat) (t : State) : Prop :=
  (flagZ t = true ↔ (a + b) % 256 = 0) ∧ flagN t = false ∧ (flagH t = true ↔ a % 16 + b % 16 > 15) ∧
  (flagC t = true ↔ a + b > 255)

/-- The flags of a subtraction of exact operands (40_alu8.md rule R104). -/
def SubFlags (a b : Nat) (t : State) : Prop :=
  (flagZ t = true ↔ a = b) ∧ flagN t = true ∧ (flagH t = true ↔ a % 16 < b % 16) ∧ (flagC t = true ↔ a < b)

/-- The flags of an increment of `v`; C is kept (40_alu8.md rule R101). -/
def IncFlags (v : Nat) (s t : State) : Prop :=
  (flagZ t = true ↔ v = 0xFF) ∧ flagN t = false ∧ (flagH t = true ↔ v % 16 = 0xF) ∧ flagC t = flagC s

/-- The flags of a decrement of `v`; C is kept (40_alu8.md rule R102). -/
def DecFlags (v : Nat) (s t : State) : Prop :=
  (flagZ t = true ↔ v = 0x01) ∧ flagN t = true ∧ (flagH t = true ↔ v % 16 = 0x0) ∧ flagC t = flagC s

/-- The 139 INVALID opcodes of the main table, as 30_encoding.md rule R89 lists them. -/
def invalidRanges : List (Nat × Nat) :=
  [(0x03, 0x03), (0x07, 0x09), (0x0B, 0x0B), (0x0F, 0x10), (0x13, 0x13), (0x17, 0x19), (0x1B, 0x1B), (0x1F, 0x20),
   (0x22, 0x23), (0x27, 0x2B), (0x2F, 0x30), (0x32, 0x33), (0x35, 0x35), (0x37, 0x3B), (0x3F, 0x3F), (0x88, 0x8F),
   (0x98, 0xAE), (0xB0, 0xC2), (0xC4, 0xCA), (0xCC, 0xE9), (0xEB, 0xF9), (0xFB, 0xFF)]

/-- Is the byte one of them? -/
def isInvalidOpcode (op : Byte) : Bool := invalidRanges.any fun r => decide (r.1 ≤ op.toNat ∧ op.toNat ≤ r.2)

/-- Is the instruction at PC one of those that 30_encoding.md rule R86 assigns to these opcodes? It is not where the
decode table withdraws the byte (log entry 1). -/
def runs (ops : List Byte) (s : State) : Bool :=
  ops.contains (fetchedOpcode s) && !isWithdrawn s.withdrawn (fetchedOpcode s)

/-- Is the byte INVALID in the table that withdraws `w`: one of the 139, or one withdrawn? -/
def isInvalidIn (w : List Byte) (op : Byte) : Bool := isInvalidOpcode op || isWithdrawn w op

/-- The 16-bit immediate at PC + 1, low byte first. -/
def immediate16 (s : State) : Word := word16 (memRead (s.pc + 2) s) (memRead (s.pc + 1) s)

/-- Opcodes that store at HL: INC (HL), LD (HL),d8 and LD (HL),r (20_memory.md rule R64). -/
def storesAtHl : List Byte := [0x34, 0x36, 0x70, 0x71, 0x72, 0x73, 0x74, 0x75, 0x77]

/-- Opcodes that read at HL: INC (HL), ADD A,(HL), SUB (HL) and LD r,(HL) (20_memory.md rule R64). -/
def readsAtHl : List Byte := [0x34, 0x86, 0x96, 0x46, 0x4E, 0x56, 0x5E, 0x66, 0x6E, 0x7E]

/-- The address the next step stores to, if its instruction stores (20_memory.md rule R64). -/
def storeAddress (s : State) : Option Word :=
  if runs storesAtHl s then some (effAddr .atHl s)
  else if runs [0x02] s then some (effAddr .atBc s)
  else if runs [0x12] s then some (effAddr .atDe s)
  else if runs [0xEA] s then some (effAddr (.absolute (immediate16 s)) s)
  else none

/-- The address the next step reads data from, if its instruction does (20_memory.md rule R64). -/
def loadAddress (s : State) : Option Word :=
  if runs readsAtHl s then some (effAddr .atHl s)
  else if runs [0x0A] s then some (effAddr .atBc s)
  else if runs [0x1A] s then some (effAddr .atDe s)
  else if runs [0xFA] s then some (effAddr (.absolute (immediate16 s)) s)
  else none

/-- The opcodes of the eight arithmetic and logic instructions (10_state.md rule R23, 30_encoding.md rule R86). -/
def aluOpcodes : List Byte :=
  [0x04, 0x0C, 0x14, 0x1C, 0x24, 0x2C, 0x3C, 0x34, 0x05, 0x0D, 0x15, 0x1D, 0x25, 0x2D, 0x3D,
   0x80, 0x81, 0x82, 0x83, 0x84, 0x85, 0x86, 0x87, 0x90, 0x91, 0x92, 0x93, 0x94, 0x95, 0x96, 0x97, 0xAF]

/-- The opcodes that leave C alone among them: INC and DEC (10_state.md rule R23). -/
def incDecOpcodes : List Byte :=
  [0x04, 0x0C, 0x14, 0x1C, 0x24, 0x2C, 0x3C, 0x34, 0x05, 0x0D, 0x15, 0x1D, 0x25, 0x2D, 0x3D]

/-- The flag byte after the step of `s` from a state that differs in F alone, `f` in place of F, where the step of `s`
itself leaves `t`: `f` where the instruction is none of the arithmetic and logic ones; for INC and DEC the new Z, N, H
over C and F[3:0] of `f`; for the others the new Z, N, H, C over F[3:0] of `f` (10_state.md rules R22, R23). -/
def carriedF (f : Byte) (s t : State) : Byte :=
  if runs incDecOpcodes s then (readF t).extractLsb' 5 3 ++ f.extractLsb' 0 5
  else if runs aluOpcodes s then (readF t).extractLsb' 4 4 ++ f.extractLsb' 0 4
  else f

/-- Agreement on everything a program can see: registers, flags, SP, PC and every byte of memory. -/
def SameMachine (s t : State) : Prop :=
  (∀ q, readReg q t = readReg q s) ∧ readF t = readF s ∧ t.sp = s.sp ∧ t.pc = s.pc ∧ KeepsMemory s t ∧
  t.bus.cart = s.bus.cart

/-- The state with another byte in IE. -/
def withIe (v : Byte) (s : State) : State := { s with bus := { s.bus with ie := v } }

/-- The state with another flag byte. -/
def withF (f : Byte) (s : State) : State := { s with af := setLo s.af f }

end Sys2Proof.Claim

open Sys2Proof Sys2Proof.Machine Sys2Proof.Claim

/-! ### Encoding -/

/-- Words written out from 30_encoding.md rules R82 to R84, one for each family: what they decode to. -/
def Obligations.WordsOfTheEncodingTablesDecode : Prop :=
  decode [0b00000000] = .ok (.nop, []) ∧
  decode [0b00100001, 0x00, 0xC0] = .ok (.ldHlD16 0xC000, []) ∧
  decode [0b00111110, 0xAA] = .ok (.ldAD8 0xAA, []) ∧
  decode [0b01100101] = .ok (.ldHL, []) ∧
  decode [0b01110110] = .ok (.halt, []) ∧
  decode [0b10010110] = .ok (.subAtHl, []) ∧
  decode [0b11000011, 0x34, 0x12] = .ok (.jpA16 0x1234, []) ∧
  decode [0b11001011, 0x11] = .ok (.prefixCb 0x11, []) ∧
  decode [0b11101010, 0x80, 0xFF] = .ok (.ldAtA16A 0xFF80, []) ∧
  decode [0b11010011] = .ok (.invalidD3, [])

/-- Decoding the encoding of an instruction gives it back, whatever bytes follow, with every operand at every value and
under every decode table (log entry 1) that has it; under the table of rule R86 these are all main-table instructions.
The decoder is 30_encoding.md R87's grid, the encoder R84's bit patterns. -/
def Obligations.DecodeOfEncodedInstruction : Prop :=
  (∀ (w : List Byte) (i : Instr) (rest : List Byte),
    i.wellFormedIn w = true → decodeIn w (encode i ++ rest) = .ok (i, rest)) ∧
  (∀ (i : Instr) (rest : List Byte), i.wellFormed = true → decode (encode i ++ rest) = .ok (i, rest))

/-- Whatever decodes is an instruction of the table, and its encoding followed by the rest is what was read: each byte
sequence has one meaning, under every decode table (log entry 1). -/
def Obligations.EncodeOfDecodedBytes : Prop :=
  ∀ (w bytes : List Byte) (i : Instr) (rest : List Byte),
    decodeIn w bytes = .ok (i, rest) → i.wellFormedIn w = true ∧ encode i ++ rest = bytes

/-- 30_encoding.md rule R91: the opcode byte alone tells the length, and decoding consumes exactly that many bytes; a
byte that the decode table withdraws is INVALID, of length 1 (log entry 1). That a list too short is answered `truncated`
is in no rule: it is the model's, log entry 15. -/
def Obligations.OpcodeTellsLength : Prop :=
  ∀ (w : List Byte) (op : Byte) (bytes : List Byte),
    let n := if isWithdrawn w op = true then 1
      else if op ∈ [0x01, 0x11, 0x21, 0x31, 0xC3, 0xEA, 0xFA] then 3
      else if op ∈ [0x06, 0x0E, 0x16, 0x1E, 0x26, 0x2E, 0x36, 0x3E, 0xCB] then 2 else 1
    (n ≤ bytes.length + 1 → ∃ i, decodeIn w (op :: bytes) = .ok (i, bytes.drop (n - 1)) ∧ (encode i).length = n) ∧
    (bytes.length + 1 < n → decodeIn w (op :: bytes) = .error (.truncated op))

/-- A narrower table leaves INVALID exactly those of the bytes it withdraws that 30_encoding.md rule R86 assigns and the
source does not name, and gives every other byte the entry of rule R86 (92_eei_decisions.md D1; the form of the
configuration is the model's, log entry 1). -/
def Obligations.NarrowerTableWithdrawsOpcodes : Prop :=
  ∀ (w : List Byte) (op b₁ b₂ : Byte),
    (isWithdrawn w op = true ↔ op ∈ w ∧ isInvalidOpcode op = false ∧ op ∉ [0x06, 0x3E, 0x76, 0xC3, 0xCB]) ∧
    ((entryIn w op b₁ b₂).shape = .invalid op ↔ isInvalidIn w op = true) ∧
    (isWithdrawn w op = false → entryIn w op b₁ b₂ = decodeMain op b₁ b₂)

/-- 30_encoding.md rule R89: the opcodes that resolve to INVALID are exactly the 139 listed. -/
def Obligations.InvalidOpcodesAreThose139 : Prop :=
  (∀ op b₁ b₂, (decodeMain op b₁ b₂).shape = .invalid op ↔ isInvalidOpcode op = true) ∧
  (invalidRanges.map fun r => r.2 + 1 - r.1).sum = 139

/-- 30_encoding.md rule R90: every entry of the secondary table is INVALID, and every pair 0xCB, cbop decodes to the
prefix with that byte, 0xCB and 0x76 as well, under every decode table. The third clause, that the prefix has the effect
of the entry, is the model's: it gives the entry the whole two-byte step, log entry 2. -/
def Obligations.SecondaryTableIsAllInvalid : Prop :=
  ∀ (w : List Byte) (cbop : Byte) (rest : List Byte),
    decodeIn w (0xCB :: cbop :: rest) = .ok (.prefixCb cbop, rest) ∧
    (decodeSecondary cbop).shape = .invalidCb cbop ∧
    (∀ s, exec (.prefixCb cbop) s = exec (decodeSecondary cbop) s)

/-! ### The bus -/

/-- 20_memory.md rule R52. -/
def Obligations.CartridgeReadsByteOrFill : Prop :=
  ∀ (s : State) (a : Word), a.toNat ≤ 0x7FFF →
    (s.bus.cart = none → memRead a s = 0xFF) ∧
    (∀ bytes, s.bus.cart = some bytes →
      (∀ h : a.toNat < bytes.length, memRead a s = bytes[a.toNat]) ∧
      (bytes.length ≤ a.toNat → memRead a s = 0xFF))

/-- 20_memory.md rule R53. -/
def Obligations.CartridgeWritesAreDropped : Prop :=
  ∀ (s : State) (a : Word) (v : Byte), a.toNat ≤ 0x7FFF → memWrite a v s = s

/-- 20_memory.md rules R54, R57, R58: video RAM, external RAM, object memory, the prohibited region and the I/O
registers read 0xFF and ignore writes. -/
def Obligations.StubsReadFillAndIgnoreWrites : Prop :=
  ∀ (s : State) (a : Word) (v : Byte),
    (0x8000 ≤ a.toNat ∧ a.toNat ≤ 0xBFFF) ∨ (0xFE00 ≤ a.toNat ∧ a.toNat ≤ 0xFF7F) →
    memRead a s = 0xFF ∧ memWrite a v s = s

/-- 20_memory.md rules R55 and R56: WRAM by its direct addresses and by its mirror. A write to either address of an
offset 0 to 0x1DFF reads back at both; offsets 0x1E00 to 0x1FFF have the direct address only. -/
def Obligations.WorkRamAndItsMirror : Prop :=
  ∀ (s : State) (v : Byte), s.Inv →
    (∀ a : Word, 0xC000 ≤ a.toNat → a.toNat ≤ 0xDFFF →
      memRead a s = s.bus.wram.read (a.toNat - 0xC000) ∧ memRead a (memWrite a v s) = v ∧
      (memWrite a v s).bus.wram = s.bus.wram.write (a.toNat - 0xC000) v) ∧
    (∀ a : Word, 0xE000 ≤ a.toNat → a.toNat ≤ 0xFDFF →
      memRead a s = s.bus.wram.read (a.toNat - 0xE000) ∧ memRead a (memWrite a v s) = v ∧
      (memWrite a v s).bus.wram = s.bus.wram.write (a.toNat - 0xE000) v) ∧
    (∀ a b : Word, 0xC000 ≤ a.toNat → a.toNat ≤ 0xDDFF → b.toNat = a.toNat + 0x2000 →
      memRead b (memWrite a v s) = v ∧ memRead a (memWrite b v s) = v) ∧
    (∀ a b : Word, 0xDE00 ≤ a.toNat → a.toNat ≤ 0xDFFF → b ≠ a → memRead b (memWrite a v s) = memRead b s)

/-- 20_memory.md rules R59 and R60: high RAM by direct index, and the interrupt-enable byte. -/
def Obligations.HighRamAndInterruptEnable : Prop :=
  ∀ (s : State) (v : Byte), s.Inv →
    (∀ a : Word, 0xFF80 ≤ a.toNat → a.toNat ≤ 0xFFFE →
      memRead a s = s.bus.hram.read (a.toNat - 0xFF80) ∧ memRead a (memWrite a v s) = v ∧
      (memWrite a v s).bus.hram = s.bus.hram.write (a.toNat - 0xFF80) v) ∧
    memRead 0xFFFF s = s.bus.ie ∧ memRead 0xFFFF (memWrite 0xFFFF v s) = v ∧ (memWrite 0xFFFF v s).bus.ie = v

/-- One bus write changes one byte of storage and no other: after it, the addresses that name the byte read it, and
every other address of the 65536 reads as before (20_memory.md section 2). -/
def Obligations.BusWriteChangesOneByte : Prop :=
  ∀ (s : State) (a : Word) (v : Byte), s.Inv → Stores a v s (memWrite a v s)

/-! ### Registers -/

/-- 10_state.md rule R20: an 8-bit half and its pair are one piece of storage seen two ways. -/
def Obligations.HalvesAndPairsAreOneStorage : Prop :=
  (∀ s, s.af = word16 (readReg .a s) (readF s) ∧ s.bc = word16 (readReg .b s) (readReg .c s) ∧
    s.de = word16 (readReg .d s) (readReg .e s) ∧ s.hl = word16 (readReg .h s) (readReg .l s)) ∧
  (∀ s v, (writeReg .b v s).bc = word16 v (readReg .c s) ∧ (writeReg .c v s).bc = word16 (readReg .b s) v ∧
    (writeReg .d v s).de = word16 v (readReg .e s) ∧ (writeReg .e v s).de = word16 (readReg .d s) v ∧
    (writeReg .h v s).hl = word16 v (readReg .l s) ∧ (writeReg .l v s).hl = word16 (readReg .h s) v ∧
    (writeReg .a v s).af = word16 v (readF s))

/-- 10_state.md rule R21: writing F as a whole masks out its low nibble, and no step makes F[3:0] anything but zero. -/
def Obligations.FlagByteLowNibbleIsZero : Prop :=
  (∀ v s, readF (writeF v s) = v &&& 0xF0) ∧
  (∀ s t, (readF s).extractLsb' 0 4 = 0 → step s = .next t → (readF t).extractLsb' 0 4 = 0)

/-! ### Arithmetic and logic -/

/-- 40_alu8.md rule R106, for incB, incC, incD, incE, incH, incL, incA. -/
def Obligations.IncRegister : Prop :=
  ∀ (i : Instr) (y : Reg8) (s : State), i.shape = .incR y →
    Encoded i (0x04 + 8 * y.code.toNat) [] ∧ ∃ t, exec i s = .next t ∧
    (readReg y t).toNat = ((readReg y s).toNat + 1) % 256 ∧ IncFlags (readReg y s).toNat s t ∧ KeepsLowF s t ∧
    Ends 1 s.cycles.incR 4 s t ∧ RegisterFrame [y] s t

/-- 40_alu8.md rule R107, for decB, decC, decD, decE, decH, decL, decA. -/
def Obligations.DecRegister : Prop :=
  ∀ (i : Instr) (y : Reg8) (s : State), i.shape = .decR y →
    Encoded i (0x05 + 8 * y.code.toNat) [] ∧ ∃ t, exec i s = .next t ∧
    (readReg y t).toNat = ((readReg y s).toNat + 255) % 256 ∧ DecFlags (readReg y s).toNat s t ∧ KeepsLowF s t ∧
    Ends 1 s.cycles.decR 4 s t ∧ RegisterFrame [y] s t

/-- 40_alu8.md rule R108, for incAtHl: the flags come from the byte read, whether or not the write takes effect. -/
def Obligations.IncMemoryAtHl : Prop :=
  ∀ (s : State), s.Inv → Encoded .incAtHl 0x34 [] ∧ ∃ t, exec .incAtHl s = .next t ∧
    Stores (effAddr .atHl s) (memRead s.hl s + 1) s t ∧ IncFlags (memRead s.hl s).toNat s t ∧ KeepsLowF s t ∧
    Ends 1 s.cycles.incAtHl 12 s t ∧ StoreFrame s t

/-- 40_alu8.md rule R109, for addAB, addAC, addAD, addAE, addAH, addAL, addAA. -/
def Obligations.AddRegister : Prop :=
  ∀ (i : Instr) (z : Reg8) (s : State), i.shape = .addAR z →
    Encoded i (0x80 + z.code.toNat) [] ∧ ∃ t, exec i s = .next t ∧
    (readReg .a t).toNat = ((readReg .a s).toNat + (readReg z s).toNat) % 256 ∧
    AddFlags (readReg .a s).toNat (readReg z s).toNat t ∧ KeepsLowF s t ∧
    Ends 1 s.cycles.addAR 4 s t ∧ RegisterFrame [.a] s t

/-- 40_alu8.md rule R110, for addAAtHl. -/
def Obligations.AddMemoryAtHl : Prop :=
  ∀ (s : State), Encoded .addAAtHl 0x86 [] ∧ ∃ t, exec .addAAtHl s = .next t ∧
    (readReg .a t).toNat = ((readReg .a s).toNat + (memRead s.hl s).toNat) % 256 ∧
    AddFlags (readReg .a s).toNat (memRead s.hl s).toNat t ∧ KeepsLowF s t ∧
    Ends 1 s.cycles.addAAtHl 8 s t ∧ RegisterFrame [.a] s t

/-- 40_alu8.md rule R111, for subB, subC, subD, subE, subH, subL, subA. -/
def Obligations.SubRegister : Prop :=
  ∀ (i : Instr) (z : Reg8) (s : State), i.shape = .subR z →
    Encoded i (0x90 + z.code.toNat) [] ∧ ∃ t, exec i s = .next t ∧
    (readReg .a t).toNat = ((readReg .a s).toNat + 256 - (readReg z s).toNat) % 256 ∧
    SubFlags (readReg .a s).toNat (readReg z s).toNat t ∧ KeepsLowF s t ∧
    Ends 1 s.cycles.subR 4 s t ∧ RegisterFrame [.a] s t

/-- 40_alu8.md rule R112, for subAtHl. -/
def Obligations.SubMemoryAtHl : Prop :=
  ∀ (s : State), Encoded .subAtHl 0x96 [] ∧ ∃ t, exec .subAtHl s = .next t ∧
    (readReg .a t).toNat = ((readReg .a s).toNat + 256 - (memRead s.hl s).toNat) % 256 ∧
    SubFlags (readReg .a s).toNat (memRead s.hl s).toNat t ∧ KeepsLowF s t ∧
    Ends 1 s.cycles.subAtHl 8 s t ∧ RegisterFrame [.a] s t

/-- 40_alu8.md rule R113, for xorA: the result does not depend on A. -/
def Obligations.XorAZeroes : Prop :=
  ∀ (s : State), Encoded .xorA 0xAF [] ∧ ∃ t, exec .xorA s = .next t ∧ readReg .a t = 0x00 ∧
    flagZ t = true ∧ flagN t = false ∧ flagH t = false ∧ flagC t = false ∧ KeepsLowF s t ∧
    Ends 1 s.cycles.xorA 4 s t ∧ RegisterFrame [.a] s t

/-! ### Loads and stores -/

/-- 41_loads.md rule R120, for ldBcD16, ldDeD16, ldHlD16, ldSpD16: the pair, both its halves, and no other pair. -/
def Obligations.LoadPairImmediate : Prop :=
  ∀ (i : Instr) (p : RegPair) (d16 : Word) (s : State), i.shape = .ldRrD16 p d16 →
    Encoded i (0x01 + 16 * p.code.toNat) [loByte d16, hiByte d16] ∧ ∃ t, exec i s = .next t ∧
    readPair p t = d16 ∧ (∀ q, q ≠ p → readPair q t = readPair q s) ∧ readReg .a t = readReg .a s ∧
    KeepsFlags s t ∧ Ends 3 s.cycles.ldRrD16 12 s t ∧ KeepsMemory s t ∧ t.diags = s.diags ∧ Aside s t

/-- 41_loads.md rule R121, for ldBD8, ldCD8, ldDD8, ldED8, ldHD8, ldLD8, ldAD8. -/
def Obligations.LoadRegisterImmediate : Prop :=
  ∀ (i : Instr) (y : Reg8) (d8 : Byte) (s : State), i.shape = .ldRD8 y d8 →
    Encoded i (0x06 + 8 * y.code.toNat) [d8] ∧ ∃ t, exec i s = .next t ∧
    readReg y t = d8 ∧ KeepsFlags s t ∧ Ends 2 s.cycles.ldRD8 8 s t ∧ RegisterFrame [y] s t

/-- 41_loads.md rule R122, for ldAtHlD8. -/
def Obligations.StoreImmediateAtHl : Prop :=
  ∀ (d8 : Byte) (s : State), s.Inv → Encoded (.ldAtHlD8 d8) 0x36 [d8] ∧ ∃ t, exec (.ldAtHlD8 d8) s = .next t ∧
    Stores (effAddr .atHl s) d8 s t ∧ KeepsFlags s t ∧ Ends 2 s.cycles.ldAtHlD8 12 s t ∧ StoreFrame s t

/-- 41_loads.md rule R123, for the 49 register moves (ldBB to ldAA). -/
def Obligations.MoveRegister : Prop :=
  ∀ (i : Instr) (y z : Reg8) (s : State), i.shape = .ldRR y z →
    Encoded i (0x40 + 8 * y.code.toNat + z.code.toNat) [] ∧ ∃ t, exec i s = .next t ∧
    readReg y t = readReg z s ∧ KeepsFlags s t ∧ Ends 1 s.cycles.ldRR 4 s t ∧ RegisterFrame [y] s t

/-- 41_loads.md rule R124, for ldBAtHl, ldCAtHl, ldDAtHl, ldEAtHl, ldHAtHl, ldLAtHl, ldAAtHl: the address is the old
HL. -/
def Obligations.LoadRegisterAtHl : Prop :=
  ∀ (i : Instr) (y : Reg8) (s : State), i.shape = .ldRAtHl y →
    Encoded i (0x46 + 8 * y.code.toNat) [] ∧ ∃ t, exec i s = .next t ∧
    readReg y t = memRead s.hl s ∧ KeepsFlags s t ∧ Ends 1 s.cycles.ldRAtHl 8 s t ∧ RegisterFrame [y] s t

/-- 41_loads.md rule R125, for ldAtHlB, ldAtHlC, ldAtHlD, ldAtHlE, ldAtHlH, ldAtHlL, ldAtHlA. -/
def Obligations.StoreRegisterAtHl : Prop :=
  ∀ (i : Instr) (z : Reg8) (s : State), i.shape = .ldAtHlR z → s.Inv →
    Encoded i (0x70 + z.code.toNat) [] ∧ ∃ t, exec i s = .next t ∧
    Stores (effAddr .atHl s) (readReg z s) s t ∧ KeepsFlags s t ∧ Ends 1 s.cycles.ldAtHlR 8 s t ∧ StoreFrame s t

/-- 41_loads.md rule R127, for ldAAtBc and ldAAtDe. -/
def Obligations.LoadAThroughPair : Prop :=
  ∀ (i : Instr) (p : RegPair) (s : State), i.shape = .ldAAtRr p →
    (p = .bc ∨ p = .de) ∧ Encoded i (0x0A + 16 * p.code.toNat) [] ∧ ∃ t, exec i s = .next t ∧
    readReg .a t = memRead (readPair p s) s ∧ KeepsFlags s t ∧ Ends 1 s.cycles.ldAAtRr 8 s t ∧ RegisterFrame [.a] s t

/-- 41_loads.md rule R128, for ldAtBcA and ldAtDeA. -/
def Obligations.StoreAThroughPair : Prop :=
  ∀ (i : Instr) (p : RegPair) (s : State), i.shape = .ldAtRrA p → s.Inv →
    (p = .bc ∨ p = .de) ∧ Encoded i (0x02 + 16 * p.code.toNat) [] ∧ ∃ t, exec i s = .next t ∧
    (p = .bc → Stores (effAddr .atBc s) (readReg .a s) s t) ∧
    (p = .de → Stores (effAddr .atDe s) (readReg .a s) s t) ∧ KeepsFlags s t ∧
    Ends 1 s.cycles.ldAtRrA 8 s t ∧ StoreFrame s t

/-- 41_loads.md rule R129, for ldAAtA16. -/
def Obligations.LoadAAbsolute : Prop :=
  ∀ (a16 : Word) (s : State), Encoded (.ldAAtA16 a16) 0xFA [loByte a16, hiByte a16] ∧
    ∃ t, exec (.ldAAtA16 a16) s = .next t ∧
    readReg .a t = memRead a16 s ∧ KeepsFlags s t ∧ Ends 3 s.cycles.ldAAtA16 16 s t ∧ RegisterFrame [.a] s t

/-- 41_loads.md rule R130, for ldAtA16A. -/
def Obligations.StoreAAbsolute : Prop :=
  ∀ (a16 : Word) (s : State), s.Inv → Encoded (.ldAtA16A a16) 0xEA [loByte a16, hiByte a16] ∧
    ∃ t, exec (.ldAtA16A a16) s = .next t ∧
    Stores (effAddr (.absolute a16) s) (readReg .a s) s t ∧ KeepsFlags s t ∧
    Ends 3 s.cycles.ldAtA16A 16 s t ∧ StoreFrame s t

/-! ### Control -/

/-- 42_control.md rule R141, for nop. -/
def Obligations.NopOnlyAdvances : Prop :=
  ∀ (s : State), Encoded .nop 0x00 [] ∧ ∃ t, exec .nop s = .next t ∧
    KeepsFlags s t ∧ Ends 1 s.cycles.nop 4 s t ∧ RegisterFrame [] s t

/-- 42_control.md rule R142, for jpA16: every target, no other effect, the source's 16 cycles. -/
def Obligations.JumpAbsolute : Prop :=
  ∀ (a16 : Word) (s : State), Encoded (.jpA16 a16) 0xC3 [loByte a16, hiByte a16] ∧
    ∃ t, exec (.jpA16 a16) s = .next t ∧ t.pc = a16 ∧ t.instrLen = 3 ∧ t.instrCycles = 16 ∧
    KeepsFlags s t ∧ RegisterFrame [] s t

/-- 42_control.md rule R143, for halt: PC stays on the HALT opcode. -/
def Obligations.HaltStaysOnItself : Prop :=
  ∀ (s : State), Encoded .halt 0x76 [] ∧ ∃ t, exec .halt s = .next t ∧ t.pc = s.pc ∧ t.instrLen = 1 ∧
    t.instrCycles = s.cycles.halt ∧ (s.cycles = defaultCycles → t.instrCycles = 4) ∧
    KeepsFlags s t ∧ RegisterFrame [] s t

/-- 42_control.md rules R144 and R145, for prefixCb and invalidCbCbop: two bytes, four cycles, one diagnostic, nothing
else. That invalidCbCbop by itself has those two bytes, moves PC by 2 and sets `instr_len` 2 is the model's, log entry 2:
R145's entry only emits the diagnostic and sets the cost. -/
def Obligations.PrefixCbOnlyConsumesTwoBytes : Prop :=
  ∀ (i : Instr) (cbop : Byte) (s : State), i.shape = .prefixCb cbop ∨ i.shape = .invalidCb cbop →
    Encoded i 0xCB [cbop] ∧ ∃ t, exec i s = .next t ∧ Ends 2 4 4 s t ∧ t.diags = .invalidOpcodeCb s.pc cbop :: s.diags ∧
    KeepsFlags s t ∧ KeepsRegs [] s t ∧ KeepsMemory s t ∧ Aside s t

/-- 42_control.md rule R146, for the 139 constructors invalid03 to invalidFF. -/
def Obligations.InvalidOnlyAdvances : Prop :=
  ∀ (i : Instr) (op : Byte) (s : State), i.shape = .invalid op → i ≠ .invalidWithdrawn op →
    isInvalidOpcode op = true ∧ RunsAsInvalid i op s

/-- The model's own constructor for a byte that a narrower decode table leaves INVALID (log entry 1) runs as 42_control.md
rule R146 says of INVALID, whatever the byte. -/
def Obligations.WithdrawnByteRunsAsInvalid : Prop :=
  ∀ (op : Byte) (s : State), RunsAsInvalid (.invalidWithdrawn op) op s

/-! ### The step and the whole machine -/

/-- 42_control.md rule R140: when the bytes at PC decode to an instruction, the step is its effect, then the trace, the
cycle count and the report. -/
def Obligations.StepRunsTheDecodedInstruction : Prop :=
  ∀ (s t : State) (i : Instr) (rest : List Byte),
    decodeIn s.withdrawn (bytesAt s.pc s) = .ok (i, rest) → exec i s = .next t →
    step s = .next { t with
      trace := snapshot s.pc (encode i) t
      totalCycles := t.totalCycles + t.instrCycles
      report := some { opcode := memRead s.pc s, cycles := t.instrCycles }
      freeCount := t.freeCount + 1 }

/-- 42_control.md rule R140: the step is total. The bytes at PC always decode, and the step always ends in a next state,
whose cycle count has grown by the reported cost of the instruction and whose report names the opcode byte at PC. -/
def Obligations.StepIsTotal : Prop :=
  ∀ (s : State), (∃ i rest, decodeIn s.withdrawn (bytesAt s.pc s) = .ok (i, rest)) ∧
    ∃ t, step s = .next t ∧ 1 ≤ t.instrLen ∧ t.instrLen ≤ 3 ∧ t.totalCycles = s.totalCycles + t.instrCycles ∧
    t.report = some { opcode := memRead s.pc s, cycles := t.instrCycles }

/-- Every step keeps the invariant: F[3:0] zero, both RAM arrays canonical (the model's form, log entry 16) and within
their sizes, `instr_len` within its bound. -/
def Obligations.EveryStepKeepsInvariant : Prop :=
  ∀ (s t : State), s.Inv → step s = .next t → t.Inv

/-- The invariant holds in every launch state and after every reset by the EEI. -/
def Obligations.LaunchAndResetMeetInvariant : Prop :=
  (∀ p : Params, p.instrLenInit ≤ 3 → (State.launch p).Inv) ∧ (∀ pcInit s, (systemReset pcInit s).Inv) ∧
  State.reset.Inv

/-- 10_state.md rule R36 and the bus half of 70_reset_and_hazards.md rule R170, for every CART, PC_INIT, IE_INIT and
CYCLES. -/
def Obligations.LaunchStateHasTheResetValues : Prop :=
  ∀ (p : Params), let s := State.launch p
    readReg .a s = 0x01 ∧ readF s = 0xB0 ∧ readReg .b s = 0x00 ∧ readReg .c s = 0x13 ∧ readReg .d s = 0x00 ∧
    readReg .e s = 0xD8 ∧ readReg .h s = 0x01 ∧ readReg .l s = 0x4D ∧ s.sp = 0xFFFE ∧ s.pc = p.pcInit ∧
    s.totalCycles = 0 ∧ s.instrCycles = 0 ∧
    s.trace = { pc := 0, opcode := 0, operand := 0, length := 0, bytes := [] } ∧
    (∀ a : Word, 0xC000 ≤ a.toNat → a.toNat ≤ 0xFDFF → memRead a s = 0x00) ∧
    (∀ a : Word, 0xFF80 ≤ a.toNat → a.toNat ≤ 0xFFFE → memRead a s = 0x00) ∧
    memRead 0xFFFF s = p.ieInit ∧ s.bus.cart = p.cart ∧ s.withdrawn = p.withdrawn ∧ Params.default.pcInit = 0x0100

/-- 70_reset_and_hazards.md rule R170: the EEI's reset, from any state, restores the boot state and leaves IE, CART
and the decode table untouched. -/
def Obligations.ResetRestoresBootStateKeepsIeAndCart : Prop :=
  ∀ (pcInit : Word) (s : State), let t := systemReset pcInit s
    t.af = 0x01B0 ∧ t.bc = 0x0013 ∧ t.de = 0x00D8 ∧ t.hl = 0x014D ∧ t.sp = 0xFFFE ∧ t.pc = pcInit ∧
    t.totalCycles = 0 ∧ t.instrCycles = 0 ∧
    t.trace = { pc := 0, opcode := 0, operand := 0, length := 0, bytes := [] } ∧
    (∀ a : Word, 0xC000 ≤ a.toNat → a.toNat ≤ 0xFDFF → memRead a t = 0x00) ∧
    (∀ a : Word, 0xFF80 ≤ a.toNat → a.toNat ≤ 0xFFFE → memRead a t = 0x00) ∧
    t.bus.ie = s.bus.ie ∧ t.bus.cart = s.bus.cart ∧ t.withdrawn = s.withdrawn

/-- 42_control.md rule R147: PC changes by one for each byte fetched, by JP a16 to its operand, and by HALT back to the
opcode; in no other way. -/
def Obligations.PcChangesInThreeWays : Prop :=
  ∀ (s t : State), step s = .next t →
    t.pc = if fetchedOpcode s = 0xC3 then immediate16 s
      else if fetchedOpcode s = 0x76 then s.pc
      else s.pc + BitVec.ofNat 16 (fetchedLength s)

/-- 10_state.md rule R26: among the instructions only LD SP,d16 writes SP. -/
def Obligations.OnlyLoadSpWritesSp : Prop :=
  ∀ (s t : State), step s = .next t → t.sp = if runs [0x31] s then immediate16 s else s.sp

/-- 10_state.md rule R26: no instruction reads SP. Two states that differ in SP alone have next states that differ in SP
at most. -/
def Obligations.NoInstructionReadsSp : Prop :=
  ∀ (s t : State) (v : Word), step s = .next t →
    step { s with sp := v } = .next { t with sp := if runs [0x31] s then t.sp else v }

/-- 10_state.md rule R23: only the eight arithmetic and logic instructions write a flag, INC and DEC never C, and every
other instruction leaves F alone. -/
def Obligations.OnlyArithmeticWritesFlags : Prop :=
  ∀ (s t : State), step s = .next t →
    (runs aluOpcodes s = false → readF t = readF s) ∧
    (runs incDecOpcodes s = true → flagC t = flagC s) ∧
    (readF t).extractLsb' 0 4 = (readF s).extractLsb' 0 4

/-- 10_state.md rule R23: no instruction reads a flag. Two states that differ in F alone have next states that differ in
F alone, and there only in bits that the instruction leaves: all of F, or C and F[3:0] for INC and DEC, or F[3:0] for the
other arithmetic and logic instructions. -/
def Obligations.NoInstructionReadsAFlag : Prop :=
  ∀ (s t : State) (f : Byte), step s = .next t → step (withF f s) = .next (withF (carriedF f s t) t)

/-- 20_memory.md rule R64: memory changes only through the one data write of a storing instruction, at the address its
addressing mode gives; every other byte of the address space reads as before. -/
def Obligations.OnlyStoresChangeMemory : Prop :=
  ∀ (s t : State), step s = .next t →
    (storeAddress s = none → KeepsMemory s t) ∧
    (∀ a, storeAddress s = some a → ∀ b, ¬ (Writable a ∧ SameByte a b) → memRead b t = memRead b s)

/-- 60_exceptions.md rule R151: IE has no effect. A step that neither fetches at 0xFFFF nor reads or writes data there
does the same whatever IE holds, and keeps it. -/
def Obligations.InterruptEnableByteIsInert : Prop :=
  ∀ (s t : State) (v : Byte), s.pc.toNat + fetchedLength s ≤ 0xFFFF → loadAddress s ≠ some 0xFFFF →
    storeAddress s ≠ some 0xFFFF → step s = .next t → t.bus.ie = s.bus.ie ∧ step (withIe v s) = .next (withIe v t)

/-- 10_state.md rules R31 and R35, over a run of any length: no instruction changes CART or the decode table, and none
changes the parameter CYCLES. -/
def Obligations.NoRunChangesTheCartridge : Prop :=
  ∀ (n : Nat) (s t : State), core.run n s = .next t →
    t.bus.cart = s.bus.cart ∧ t.withdrawn = s.withdrawn ∧ t.cycles = s.cycles

/-- 70_reset_and_hazards.md rule R174: from a final state every further step returns the same registers, flags, PC and
memory, adds the cost of HALT to the count, and is final again; no run leaves a final state. -/
def Obligations.FinalStateIsAFixedPoint : Prop :=
  ∀ (n : Nat) (s : State), s.isFinal = true →
    ∃ t, core.run n s = .next t ∧ SameMachine s t ∧ t.isFinal = true ∧
    t.totalCycles = s.totalCycles + n * s.cycles.halt ∧ t.diags = s.diags

/-- 60_exceptions.md rule R162: a step emits exactly one diagnostic when its opcode is INVALID or the prefix, and none
otherwise. -/
def Obligations.DiagnosticsExactlyOnInvalid : Prop :=
  ∀ (s t : State), step s = .next t →
    t.diags = if isInvalidIn s.withdrawn (fetchedOpcode s) then .invalidOpcode s.pc (fetchedOpcode s) :: s.diags
      else if fetchedOpcode s = 0xCB then .invalidOpcodeCb s.pc (memRead (s.pc + 1) s) :: s.diags
      else s.diags

/-- 60_exceptions.md rule R165: the length and bytes `disassembleAt` reports at an address are those the instruction
executed from there consumes. -/
def Obligations.DisassemblyAgreesWithExecution : Prop :=
  ∀ (s t : State), step s = .next t →
    (disassembleAt s.pc s).1 = t.instrLen ∧ (disassembleAt s.pc s).2 = encode (fetchInstr s)

/-- 60_exceptions.md rule R160: the trace has the address of the instruction, and, where the instruction left its own
bytes as they were, it shows the instruction executed. The operand slot is said for lengths 2 and 3 only. -/
def Obligations.TraceShowsTheExecutedInstruction : Prop :=
  ∀ (s t : State), step s = .next t →
    t.trace.pc = s.pc ∧
    ((bytesAt s.pc t).take (fetchedLength s) = (bytesAt s.pc s).take (fetchedLength s) →
      t.trace.opcode = fetchedOpcode s ∧ t.trace.length = t.instrLen ∧ t.trace.bytes = encode (fetchInstr s) ∧
      t.trace.bytes.length = t.trace.length ∧
      (t.instrLen = 2 → t.trace.operand = word16 0 (memRead (s.pc + 1) s)) ∧
      (t.instrLen = 3 → t.trace.operand = immediate16 s))

/-- 70_reset_and_hazards.md rule R180: the costs the source fixes and the defaults of the parameter CYCLES. -/
def Obligations.CycleTableDefaults : Prop :=
  jpCycles = 16 ∧ invalidCycles = 4 ∧
  defaultCycles =
    { nop := 4, ldRrD16 := 12, incR := 4, decR := 4, incAtHl := 12, ldRD8 := 8, ldAtHlD8 := 12, addAR := 4,
      addAAtHl := 8, subR := 4, subAtHl := 8, xorA := 4, halt := 4, ldRR := 4, ldRAtHl := 8, ldAtHlR := 8,
      ldAAtRr := 8, ldAtRrA := 8, ldAAtA16 := 16, ldAtA16A := 16 }

/-- The model's own placing of an instruction for the next fetch (log entry 25): from every state that meets the
invariant, the bytes at PC are then those of the table word, and the decode table gives their opcode the entry of rule
R86. -/
def Obligations.PlacedWordIsFetched : Prop :=
  ∀ (s : State) (nbits w : Nat), s.Inv →
    bytesAt (s.withFetchWord nbits w).pc (s.withFetchWord nbits w) = tableBytes nbits w ∧
    (∀ b₀ b₁ b₂, tableBytes nbits w = [b₀, b₁, b₂] → fetchInstr (s.withFetchWord nbits w) = decodeMain b₀ b₁ b₂)
end

