-- ==== Sys2Proof/Laws/Memory.lean ====
section
/-! SUPPORT. The RAM arrays: a read after a write, the canonical form, and equal reads mean equal data. -/

namespace Sys2Proof.Machine

theorem Memory.read_below (m : Memory) (lo k : Nat) (h : Memory.wfFrom lo m = true) (hk : k < lo) :
    Memory.read m k = Memory.unlisted := by
  induction m generalizing lo with
  | nil => rfl
  | cons cell m ih =>
    obtain ⟨k₁, v₁⟩ := cell
    simp only [Memory.wfFrom, Bool.and_eq_true, decide_eq_true_eq] at h
    have : k₁ ≠ k := by omega
    simp [Memory.read, this, ih (k₁ + 1) h.2 (by omega)]

theorem Memory.read_write_same (m : Memory) (k : Nat) (v : Byte) (lo : Nat) (h : Memory.wfFrom lo m = true) :
    Memory.read (Memory.write m k v) k = v := by
  induction m generalizing lo with
  | nil => by_cases hv : v = Memory.unlisted <;> simp [Memory.write, Memory.read, hv]
  | cons cell m ih =>
    obtain ⟨k₀, v₀⟩ := cell
    simp only [Memory.wfFrom, Bool.and_eq_true, decide_eq_true_eq] at h
    by_cases hlt : k < k₀
    · by_cases hv : v = Memory.unlisted
      · have : k₀ ≠ k := by omega
        simp [Memory.write, hlt, hv, Memory.read, this, Memory.read_below m (k₀ + 1) k h.2 (by omega)]
      · simp [Memory.write, hlt, hv, Memory.read]
    · by_cases heq : k = k₀
      · subst heq
        by_cases hv : v = Memory.unlisted
        · simp [Memory.write, hv, Memory.read_below m (k + 1) k h.2 (by omega)]
        · simp [Memory.write, hv, Memory.read]
      · have : k₀ ≠ k := fun e => heq e.symm
        simp [Memory.write, hlt, heq, Memory.read, this, ih (k₀ + 1) h.2]

theorem Memory.read_write_other (m : Memory) (j k : Nat) (v : Byte) (hjk : j ≠ k) :
    Memory.read (Memory.write m k v) j = Memory.read m j := by
  have hkj : k ≠ j := fun e => hjk e.symm
  induction m with
  | nil => by_cases hv : v = Memory.unlisted <;> simp [Memory.write, Memory.read, hv, hkj]
  | cons cell m ih =>
    obtain ⟨k₀, v₀⟩ := cell
    by_cases hlt : k < k₀
    · by_cases hv : v = Memory.unlisted <;> simp [Memory.write, hlt, hv, Memory.read, hkj]
    · by_cases heq : k = k₀
      · subst heq
        by_cases hv : v = Memory.unlisted <;> simp [Memory.write, hv, Memory.read, hkj]
      · simp only [Memory.write, hlt, heq, if_false, Memory.read, ih]

theorem Memory.wfFrom_mono (m : Memory) (lo lo' : Nat) (h : Memory.wfFrom lo m = true) (hl : lo' ≤ lo) :
    Memory.wfFrom lo' m = true := by
  cases m with
  | nil => rfl
  | cons cell m =>
    obtain ⟨k₀, v₀⟩ := cell
    simp only [Memory.wfFrom, Bool.and_eq_true, decide_eq_true_eq] at h ⊢
    exact ⟨⟨by omega, h.1.2⟩, h.2⟩

theorem Memory.wfFrom_write (m : Memory) (lo k : Nat) (v : Byte) (h : Memory.wfFrom lo m = true) (hk : lo ≤ k) :
    Memory.wfFrom lo (Memory.write m k v) = true := by
  induction m generalizing lo with
  | nil => by_cases hv : v = Memory.unlisted <;> simp [Memory.write, Memory.wfFrom, hv, hk]
  | cons cell m ih =>
    obtain ⟨k₀, v₀⟩ := cell
    have h' := h
    simp only [Memory.wfFrom, Bool.and_eq_true, decide_eq_true_eq] at h'
    by_cases hlt : k < k₀
    · by_cases hv : v = Memory.unlisted
      · simp [Memory.write, hlt, hv, h]
      · simp only [Memory.write, hlt, hv, if_true, if_false, Memory.wfFrom, Bool.and_eq_true, decide_eq_true_eq]
        exact ⟨⟨hk, hv⟩, ⟨⟨by omega, h'.1.2⟩, h'.2⟩⟩
    · by_cases heq : k = k₀
      · subst heq
        by_cases hv : v = Memory.unlisted
        · simp [Memory.write, hv, Memory.wfFrom_mono m (k + 1) lo h'.2 (by omega)]
        · simp only [Memory.write, hlt, hv, if_true, if_false, Memory.wfFrom, Bool.and_eq_true, decide_eq_true_eq]
          exact ⟨⟨hk, hv⟩, h'.2⟩
      · simp only [Memory.write, hlt, heq, if_false, Memory.wfFrom, Bool.and_eq_true, decide_eq_true_eq]
        exact ⟨h'.1, ih (k₀ + 1) h'.2 (by omega)⟩

/-- A write keeps the canonical form. -/
theorem Memory.wf_write (m : Memory) (k : Nat) (v : Byte) (h : m.wf = true) : (Memory.write m k v).wf = true :=
  Memory.wfFrom_write m 0 k v h (Nat.zero_le k)

/-- A write to an index of the array lists no index beyond it. -/
theorem Memory.within_write (size : Nat) (m : Memory) (k : Nat) (v : Byte) (h : m.within size = true) (hk : k < size) :
    (Memory.write m k v).within size = true := by
  unfold Memory.within at *
  induction m with
  | nil => by_cases hv : v = Memory.unlisted <;> simp [Memory.write, hv, hk]
  | cons cell m ih =>
    obtain ⟨k₀, v₀⟩ := cell
    simp only [List.all_cons, Bool.and_eq_true, decide_eq_true_eq] at h
    have ih' := ih h.2
    by_cases hlt : k < k₀
    · by_cases hv : v = Memory.unlisted <;> simp [Memory.write, hlt, hv, h.1, hk] <;> simpa using h.2
    · by_cases heq : k = k₀
      · subst heq
        by_cases hv : v = Memory.unlisted <;> simp [Memory.write, hv, hk] <;> simpa using h.2
      · simp only [Memory.write, hlt, heq, if_false, List.all_cons, ih', Bool.and_true, decide_eq_true_eq]
        exact h.1

/-- Writing the byte an index already reads as changes nothing, so equal memories are equal data. -/
theorem Memory.write_read_self (m : Memory) (lo k : Nat) (h : Memory.wfFrom lo m = true) :
    Memory.write m k (Memory.read m k) = m := by
  induction m generalizing lo with
  | nil => rfl
  | cons cell m ih =>
    obtain ⟨k₀, v₀⟩ := cell
    simp only [Memory.wfFrom, Bool.and_eq_true, decide_eq_true_eq] at h
    by_cases heq : k₀ = k
    · subst heq
      simp [Memory.write, Memory.read, h.1.2]
    · by_cases hlt : k < k₀
      · simp [Memory.write, Memory.read, heq, hlt, Memory.read_below m (k₀ + 1) k h.2 (by omega)]
      · have : ¬ k = k₀ := fun e => heq e.symm
        simp [Memory.write, Memory.read, heq, hlt, this, ih (k₀ + 1) h.2]

/-- Canonical memories that read alike are the same list. -/
theorem Memory.ext_of_read (m m' : Memory) (lo : Nat) (h : Memory.wfFrom lo m = true) (h' : Memory.wfFrom lo m' = true)
    (hr : ∀ k, Memory.read m k = Memory.read m' k) : m = m' := by
  induction m generalizing m' lo with
  | nil =>
    cases m' with
    | nil => rfl
    | cons cell m' =>
      obtain ⟨k₀, v₀⟩ := cell
      simp only [Memory.wfFrom, Bool.and_eq_true, decide_eq_true_eq] at h'
      have := hr k₀
      simp only [Memory.read, if_true] at this
      exact absurd this.symm h'.1.2
  | cons cell m ih =>
    obtain ⟨k, v⟩ := cell
    simp only [Memory.wfFrom, Bool.and_eq_true, decide_eq_true_eq] at h
    cases m' with
    | nil =>
      have := hr k
      simp only [Memory.read, if_true] at this
      exact absurd this h.1.2
    | cons cell' m' =>
      obtain ⟨k', v'⟩ := cell'
      simp only [Memory.wfFrom, Bool.and_eq_true, decide_eq_true_eq] at h'
      have hk : k = k' := by
        rcases Nat.lt_trichotomy k k' with hlt | heq | hgt
        · have := hr k
          have hne : ¬ k' = k := by omega
          simp only [Memory.read, if_true, hne, if_false, Memory.read_below m' (k' + 1) k h'.2 (by omega)] at this
          exact absurd this h.1.2
        · exact heq
        · have := hr k'
          have hne : ¬ k = k' := by omega
          simp only [Memory.read, if_true, hne, if_false, Memory.read_below m (k + 1) k' h.2 (by omega)] at this
          exact absurd this.symm h'.1.2
      subst hk
      have hv : v = v' := by simpa [Memory.read] using hr k
      subst hv
      have htail : ∀ j, Memory.read m j = Memory.read m' j := by
        intro j
        by_cases hj : k = j
        · subst hj
          rw [Memory.read_below m (k + 1) k h.2 (by omega), Memory.read_below m' (k + 1) k h'.2 (by omega)]
        · simpa [Memory.read, hj] using hr j
      rw [ih m' (k + 1) h.2 h'.2 htail]

end Sys2Proof.Machine
end

