-- ==== Sys2Proof/Laws/Bus.lean ====
section
/-! SUPPORT. The address decoder row by row, and what a bus write does and leaves alone (20_memory.md rules R50 to
R60). -/

namespace Sys2Proof.Machine

/-! ### The rows of the address map -/

theorem handlerOf_cartridge (a : Word) (h : a.toNat ≤ 0x7FFF) : handlerOf a = .cartridge a.toNat := by
  simp [handlerOf, h]

theorem handlerOf_videoRam (a : Word) (h : 0x8000 ≤ a.toNat) (h' : a.toNat ≤ 0x9FFF) : handlerOf a = .videoRam := by
  have h₁ : ¬ a.toNat ≤ 0x7FFF := by omega
  simp [handlerOf, h₁, h']

theorem handlerOf_externalRam (a : Word) (h : 0xA000 ≤ a.toNat) (h' : a.toNat ≤ 0xBFFF) :
    handlerOf a = .externalRam := by
  have h₁ : ¬ a.toNat ≤ 0x7FFF := by omega
  have h₂ : ¬ a.toNat ≤ 0x9FFF := by omega
  simp [handlerOf, h₁, h₂, h']

theorem handlerOf_workRam (a : Word) (h : 0xC000 ≤ a.toNat) (h' : a.toNat ≤ 0xDFFF) :
    handlerOf a = .workRam (a.toNat - 0xC000) := by
  have h₁ : ¬ a.toNat ≤ 0x7FFF := by omega
  have h₂ : ¬ a.toNat ≤ 0x9FFF := by omega
  have h₃ : ¬ a.toNat ≤ 0xBFFF := by omega
  simp [handlerOf, h₁, h₂, h₃, h']

/-- The mirror's `mod` never changes the index (20_memory.md rule R56). -/
theorem handlerOf_mirror (a : Word) (h : 0xE000 ≤ a.toNat) (h' : a.toNat ≤ 0xFDFF) :
    handlerOf a = .workRam (a.toNat - 0xE000) := by
  have h₁ : ¬ a.toNat ≤ 0x7FFF := by omega
  have h₂ : ¬ a.toNat ≤ 0x9FFF := by omega
  have h₃ : ¬ a.toNat ≤ 0xBFFF := by omega
  have h₄ : ¬ a.toNat ≤ 0xDFFF := by omega
  have hm : (a.toNat - 0xE000) % 8192 = a.toNat - 0xE000 := Nat.mod_eq_of_lt (by omega)
  simp [handlerOf, h₁, h₂, h₃, h₄, h', Config.wramSize, hm]

theorem handlerOf_objectMemory (a : Word) (h : 0xFE00 ≤ a.toNat) (h' : a.toNat ≤ 0xFE9F) :
    handlerOf a = .objectMemory := by
  have h₁ : ¬ a.toNat ≤ 0x7FFF := by omega
  have h₂ : ¬ a.toNat ≤ 0x9FFF := by omega
  have h₃ : ¬ a.toNat ≤ 0xBFFF := by omega
  have h₄ : ¬ a.toNat ≤ 0xDFFF := by omega
  have h₅ : ¬ a.toNat ≤ 0xFDFF := by omega
  simp [handlerOf, h₁, h₂, h₃, h₄, h₅, h']

theorem handlerOf_prohibited (a : Word) (h : 0xFEA0 ≤ a.toNat) (h' : a.toNat ≤ 0xFEFF) :
    handlerOf a = .prohibited := by
  have h₁ : ¬ a.toNat ≤ 0x7FFF := by omega
  have h₂ : ¬ a.toNat ≤ 0x9FFF := by omega
  have h₃ : ¬ a.toNat ≤ 0xBFFF := by omega
  have h₄ : ¬ a.toNat ≤ 0xDFFF := by omega
  have h₅ : ¬ a.toNat ≤ 0xFDFF := by omega
  have h₆ : ¬ a.toNat ≤ 0xFE9F := by omega
  simp [handlerOf, h₁, h₂, h₃, h₄, h₅, h₆, h']

theorem handlerOf_ioRegisters (a : Word) (h : 0xFF00 ≤ a.toNat) (h' : a.toNat ≤ 0xFF7F) :
    handlerOf a = .ioRegisters := by
  have h₁ : ¬ a.toNat ≤ 0x7FFF := by omega
  have h₂ : ¬ a.toNat ≤ 0x9FFF := by omega
  have h₃ : ¬ a.toNat ≤ 0xBFFF := by omega
  have h₄ : ¬ a.toNat ≤ 0xDFFF := by omega
  have h₅ : ¬ a.toNat ≤ 0xFDFF := by omega
  have h₆ : ¬ a.toNat ≤ 0xFE9F := by omega
  have h₇ : ¬ a.toNat ≤ 0xFEFF := by omega
  simp [handlerOf, h₁, h₂, h₃, h₄, h₅, h₆, h₇, h']

theorem handlerOf_highRam (a : Word) (h : 0xFF80 ≤ a.toNat) (h' : a.toNat ≤ 0xFFFE) :
    handlerOf a = .highRam (a.toNat - 0xFF80) := by
  have h₁ : ¬ a.toNat ≤ 0x7FFF := by omega
  have h₂ : ¬ a.toNat ≤ 0x9FFF := by omega
  have h₃ : ¬ a.toNat ≤ 0xBFFF := by omega
  have h₄ : ¬ a.toNat ≤ 0xDFFF := by omega
  have h₅ : ¬ a.toNat ≤ 0xFDFF := by omega
  have h₆ : ¬ a.toNat ≤ 0xFE9F := by omega
  have h₇ : ¬ a.toNat ≤ 0xFEFF := by omega
  have h₈ : ¬ a.toNat ≤ 0xFF7F := by omega
  simp [handlerOf, h₁, h₂, h₃, h₄, h₅, h₆, h₇, h₈, h']

theorem handlerOf_interruptEnable (a : Word) (h : a.toNat = 0xFFFF) : handlerOf a = .interruptEnable := by
  have : a = 0xFFFF := BitVec.eq_of_toNat_eq h
  subst this
  decide

/-- The whole address map: every address is in exactly one row (20_memory.md rule R51). -/
theorem handlerOf_rows (a : Word) :
    (a.toNat ≤ 0x7FFF ∧ handlerOf a = .cartridge a.toNat) ∨
    (0x8000 ≤ a.toNat ∧ a.toNat ≤ 0x9FFF ∧ handlerOf a = .videoRam) ∨
    (0xA000 ≤ a.toNat ∧ a.toNat ≤ 0xBFFF ∧ handlerOf a = .externalRam) ∨
    (0xC000 ≤ a.toNat ∧ a.toNat ≤ 0xDFFF ∧ handlerOf a = .workRam (a.toNat - 0xC000)) ∨
    (0xE000 ≤ a.toNat ∧ a.toNat ≤ 0xFDFF ∧ handlerOf a = .workRam (a.toNat - 0xE000)) ∨
    (0xFE00 ≤ a.toNat ∧ a.toNat ≤ 0xFE9F ∧ handlerOf a = .objectMemory) ∨
    (0xFEA0 ≤ a.toNat ∧ a.toNat ≤ 0xFEFF ∧ handlerOf a = .prohibited) ∨
    (0xFF00 ≤ a.toNat ∧ a.toNat ≤ 0xFF7F ∧ handlerOf a = .ioRegisters) ∨
    (0xFF80 ≤ a.toNat ∧ a.toNat ≤ 0xFFFE ∧ handlerOf a = .highRam (a.toNat - 0xFF80)) ∨
    (a.toNat = 0xFFFF ∧ handlerOf a = .interruptEnable) := by
  have hlt := a.isLt
  by_cases h₁ : a.toNat ≤ 0x7FFF
  · exact .inl ⟨h₁, handlerOf_cartridge a h₁⟩
  refine .inr ?_
  by_cases h₂ : a.toNat ≤ 0x9FFF
  · exact .inl ⟨by omega, h₂, handlerOf_videoRam a (by omega) h₂⟩
  refine .inr ?_
  by_cases h₃ : a.toNat ≤ 0xBFFF
  · exact .inl ⟨by omega, h₃, handlerOf_externalRam a (by omega) h₃⟩
  refine .inr ?_
  by_cases h₄ : a.toNat ≤ 0xDFFF
  · exact .inl ⟨by omega, h₄, handlerOf_workRam a (by omega) h₄⟩
  refine .inr ?_
  by_cases h₅ : a.toNat ≤ 0xFDFF
  · exact .inl ⟨by omega, h₅, handlerOf_mirror a (by omega) h₅⟩
  refine .inr ?_
  by_cases h₆ : a.toNat ≤ 0xFE9F
  · exact .inl ⟨by omega, h₆, handlerOf_objectMemory a (by omega) h₆⟩
  refine .inr ?_
  by_cases h₇ : a.toNat ≤ 0xFEFF
  · exact .inl ⟨by omega, h₇, handlerOf_prohibited a (by omega) h₇⟩
  refine .inr ?_
  by_cases h₈ : a.toNat ≤ 0xFF7F
  · exact .inl ⟨by omega, h₈, handlerOf_ioRegisters a (by omega) h₈⟩
  refine .inr ?_
  by_cases h₉ : a.toNat ≤ 0xFFFE
  · exact .inl ⟨by omega, h₉, handlerOf_highRam a (by omega) h₉⟩
  · exact .inr ⟨by omega, handlerOf_interruptEnable a (by omega)⟩

/-- Every handler's index is one its array has. -/
theorem handlerOf_index_lt (a : Word) :
    (∀ i, handlerOf a = .workRam i → i < Config.wramSize) ∧ (∀ i, handlerOf a = .highRam i → i < Config.hramSize) := by
  simp only [Config.wramSize, Config.hramSize]
  rcases handlerOf_rows a with ⟨_, h⟩ | ⟨_, _, h⟩ | ⟨_, _, h⟩ | ⟨_, _, h⟩ | ⟨_, _, h⟩ | ⟨_, _, h⟩ | ⟨_, _, h⟩ |
    ⟨_, _, h⟩ | ⟨_, _, h⟩ | ⟨_, h⟩ <;> rw [h] <;> constructor <;> intro i hi <;>
    simp only [Handler.workRam.injEq, Handler.highRam.injEq, reduceCtorEq] at hi <;> omega

/-! ### Writes -/

/-- All a bus write can do: nothing, or one byte of WRAM, of HRAM, or IE. -/
theorem Bus.write_cases (b : Bus) (a : Word) (v : Byte) :
    b.write a v = b ∨
    (∃ i, handlerOf a = .workRam i ∧ i < Config.wramSize ∧ b.write a v = { b with wram := Memory.write b.wram i v }) ∨
    (∃ i, handlerOf a = .highRam i ∧ i < Config.hramSize ∧ b.write a v = { b with hram := Memory.write b.hram i v }) ∨
    (handlerOf a = .interruptEnable ∧ b.write a v = { b with ie := v }) := by
  have hlt := handlerOf_index_lt a
  cases h : handlerOf a with
  | workRam i => exact .inr (.inl ⟨i, rfl, hlt.1 i h, by simp [Bus.write, h]⟩)
  | highRam i => exact .inr (.inr (.inl ⟨i, rfl, hlt.2 i h, by simp [Bus.write, h]⟩))
  | interruptEnable => exact .inr (.inr (.inr ⟨rfl, by simp [Bus.write, h]⟩))
  | cartridge i => exact .inl (by simp [Bus.write, h])
  | videoRam => exact .inl (by simp [Bus.write, h])
  | externalRam => exact .inl (by simp [Bus.write, h])
  | objectMemory => exact .inl (by simp [Bus.write, h])
  | prohibited => exact .inl (by simp [Bus.write, h])
  | ioRegisters => exact .inl (by simp [Bus.write, h])

@[simp] theorem Bus.write_cart (b : Bus) (a : Word) (v : Byte) : (b.write a v).cart = b.cart := by
  obtain h | ⟨i, -, -, h⟩ | ⟨i, -, -, h⟩ | ⟨-, h⟩ := b.write_cases a v <;> rw [h]

/-- A write leaves every address alone that another handler or another index serves. -/
theorem Bus.read_write_other (b : Bus) (a a' : Word) (v : Byte) (h : handlerOf a ≠ handlerOf a') :
    (b.write a v).read a' = b.read a' := by
  obtain hw | ⟨i, hi, -, hw⟩ | ⟨i, hi, -, hw⟩ | ⟨hi, hw⟩ := b.write_cases a v
  · rw [hw]
  · rw [hw]
    cases h' : handlerOf a' with
    | workRam j =>
      have : j ≠ i := fun e => h (by rw [hi, h', e])
      simp [Bus.read, h', Memory.read_write_other _ _ _ _ this]
    | _ => simp [Bus.read, h']
  · rw [hw]
    cases h' : handlerOf a' with
    | highRam j =>
      have : j ≠ i := fun e => h (by rw [hi, h', e])
      simp [Bus.read, h', Memory.read_write_other _ _ _ _ this]
    | _ => simp [Bus.read, h']
  · rw [hw]
    cases h' : handlerOf a' with
    | interruptEnable => exact absurd (by rw [hi, h']) h
    | _ => simp [Bus.read, h']

/-- A byte written to WRAM is read back through every address with its index. -/
theorem Bus.read_write_workRam (b : Bus) (a a' : Word) (v : Byte) (i : Nat) (hwf : b.wram.wf = true)
    (h : handlerOf a = .workRam i) (h' : handlerOf a' = .workRam i) : (b.write a v).read a' = v := by
  simp [Bus.write, Bus.read, h, h', Memory.read_write_same b.wram i v 0 hwf]

theorem Bus.read_write_highRam (b : Bus) (a : Word) (v : Byte) (i : Nat) (hwf : b.hram.wf = true)
    (h : handlerOf a = .highRam i) : (b.write a v).read a = v := by
  simp [Bus.write, Bus.read, h, Memory.read_write_same b.hram i v 0 hwf]

theorem Bus.read_write_interruptEnable (b : Bus) (a : Word) (v : Byte) (h : handlerOf a = .interruptEnable) :
    (b.write a v).read a = v := by
  simp [Bus.write, Bus.read, h]

/-- A bus write keeps both RAM arrays canonical and within their sizes. -/
theorem Bus.write_wf (b : Bus) (a : Word) (v : Byte)
    (hw : b.wram.wf = true) (hw' : b.wram.within Config.wramSize = true)
    (hh : b.hram.wf = true) (hh' : b.hram.within Config.hramSize = true) :
    (b.write a v).wram.wf = true ∧ (b.write a v).wram.within Config.wramSize = true ∧
    (b.write a v).hram.wf = true ∧ (b.write a v).hram.within Config.hramSize = true := by
  obtain h | ⟨i, -, hi, h⟩ | ⟨i, -, hi, h⟩ | ⟨-, h⟩ := b.write_cases a v <;> rw [h]
  · exact ⟨hw, hw', hh, hh'⟩
  · exact ⟨Memory.wf_write _ _ _ hw, Memory.within_write _ _ _ _ hw' hi, hh, hh'⟩
  · exact ⟨hw, hw', Memory.wf_write _ _ _ hh, Memory.within_write _ _ _ _ hh' hi⟩
  · exact ⟨hw, hw', hh, hh'⟩

end Sys2Proof.Machine
end

