-- ==== Sys2Proof/Laws/Decode.lean ====
section
/-! SUPPORT. The decoder's entries: an entry's opcode is its place in the table, an entry is an instruction of the main
table, and it carries the operand bytes its opcode calls for; and what `decode` answers. -/

namespace Sys2Proof

/-- Split over the 256 values of a byte. -/
theorem byte_cases {P : Byte → Prop} (h : ∀ n, n < 256 → P (BitVec.ofNat 8 n)) (b : Byte) : P b := by
  have := h b.toNat b.isLt
  rwa [BitVec.ofNat_toNat, BitVec.setWidth_eq] at this

theorem wordBytes_word16 (b₁ b₂ : Byte) : wordBytes (word16 b₂ b₁) = [b₁, b₂] := by
  have h₁ : (word16 b₂ b₁).extractLsb' 0 8 = b₁ := BitVec.extractLsb'_append_eq_right
  have h₂ : (word16 b₂ b₁).extractLsb' 8 8 = b₂ := BitVec.extractLsb'_append_eq_left
  simp [wordBytes, h₁, h₂]

/-- The grid (30_encoding.md rule R87) and the patterns (rule R84) agree on every opcode, and the main table holds
main-table instructions only. -/
theorem decodeMain_entry (op b₁ b₂ : Byte) :
    (decodeMain op b₁ b₂).opcode = op ∧ (decodeMain op b₁ b₂).wellFormed = true := by
  revert op
  refine byte_cases fun n hn => ?_
  interval_cases n <;> exact ⟨rfl, rfl⟩

@[simp] theorem opcode_decodeMain (op b₁ b₂ : Byte) : (decodeMain op b₁ b₂).opcode = op := (decodeMain_entry op b₁ b₂).1

@[simp] theorem wellFormed_decodeMain (op b₁ b₂ : Byte) : (decodeMain op b₁ b₂).wellFormed = true :=
  (decodeMain_entry op b₁ b₂).2

/-- An entry carries the bytes after its opcode, as many as the opcode calls for (30_encoding.md rules R82, R83). -/
theorem operandBytes_decodeMain (op b₁ b₂ : Byte) :
    (decodeMain op b₁ b₂).shape.operandBytes = [b₁, b₂].take (instrLength op - 1) := by
  revert op
  refine byte_cases fun n hn => ?_
  interval_cases n <;> first | rfl | exact wordBytes_word16 b₁ b₂

/-- A shape's length is the one its opcode tells (30_encoding.md rule R91, 70_reset_and_hazards.md rule R180). -/
theorem length_decodeMain (op b₁ b₂ : Byte) : (decodeMain op b₁ b₂).shape.length = instrLength op := by
  revert op
  refine byte_cases fun n hn => ?_
  interval_cases n <;> rfl

theorem instrLength_cases (op : Byte) : instrLength op = 1 ∨ instrLength op = 2 ∨ instrLength op = 3 := by
  unfold instrLength
  split
  · exact .inr (.inr rfl)
  · split
    · exact .inr (.inl rfl)
    · exact .inl rfl

/-! ### The decode table as configuration -/

theorem isWithdrawn_iff (w : List Byte) (op : Byte) :
    isWithdrawn w op = true ↔ op ∈ w ∧ isAssigned op = true ∧ op ∉ sourceOpcodes := by
  simp [isWithdrawn]

@[simp] theorem isWithdrawn_nil (op : Byte) : isWithdrawn [] op = false := rfl

/-- No table withdraws an opcode byte the source names. -/
theorem isWithdrawn_source (w : List Byte) (op : Byte) (h : op ∈ sourceOpcodes) : isWithdrawn w op = false :=
  Bool.eq_false_iff.mpr fun hw => ((isWithdrawn_iff w op).mp hw).2.2 h

theorem entryIn_withdrawn (w : List Byte) (op b₁ b₂ : Byte) (h : isWithdrawn w op = true) :
    entryIn w op b₁ b₂ = .invalidWithdrawn op := by simp [entryIn, h]

theorem entryIn_kept (w : List Byte) (op b₁ b₂ : Byte) (h : isWithdrawn w op = false) :
    entryIn w op b₁ b₂ = decodeMain op b₁ b₂ := by simp [entryIn, h]

theorem lengthIn_withdrawn (w : List Byte) (op : Byte) (h : isWithdrawn w op = true) : lengthIn w op = 1 := by
  simp [lengthIn, h]

theorem lengthIn_kept (w : List Byte) (op : Byte) (h : isWithdrawn w op = false) :
    lengthIn w op = instrLength op := by simp [lengthIn, h]

theorem lengthIn_cases (w : List Byte) (op : Byte) : lengthIn w op = 1 ∨ lengthIn w op = 2 ∨ lengthIn w op = 3 := by
  unfold lengthIn
  split
  · exact .inl rfl
  · exact instrLength_cases op

/-- An instruction of the main table of rule R86 has another name in a narrower table only where its byte is
withdrawn. -/
theorem wellFormedIn_kept (w : List Byte) (i : Instr) (h : i.wellFormed = true) :
    i.wellFormedIn w = !isWithdrawn w i.opcode := by
  cases i <;> first | rfl | cases h

@[simp] theorem opcode_entryIn (w : List Byte) (op b₁ b₂ : Byte) : (entryIn w op b₁ b₂).opcode = op := by
  cases h : isWithdrawn w op
  · rw [entryIn_kept w op b₁ b₂ h, opcode_decodeMain]
  · rw [entryIn_withdrawn w op b₁ b₂ h]
    rfl

/-- Every entry of a table stands in the byte stream under it. -/
@[simp] theorem wellFormedIn_entryIn (w : List Byte) (op b₁ b₂ : Byte) :
    (entryIn w op b₁ b₂).wellFormedIn w = true := by
  cases h : isWithdrawn w op
  · rw [entryIn_kept w op b₁ b₂ h, wellFormedIn_kept w _ (wellFormed_decodeMain op b₁ b₂), opcode_decodeMain, h]
    rfl
  · rw [entryIn_withdrawn w op b₁ b₂ h]
    exact h

/-- An entry carries the bytes after its opcode, as many as its table's length calls for. -/
theorem operandBytes_entryIn (w : List Byte) (op b₁ b₂ : Byte) :
    (entryIn w op b₁ b₂).shape.operandBytes = [b₁, b₂].take (lengthIn w op - 1) := by
  cases h : isWithdrawn w op
  · rw [entryIn_kept w op b₁ b₂ h, lengthIn_kept w op h, operandBytes_decodeMain]
  · rw [entryIn_withdrawn w op b₁ b₂ h, lengthIn_withdrawn w op h]
    rfl

theorem length_entryIn (w : List Byte) (op b₁ b₂ : Byte) : (entryIn w op b₁ b₂).shape.length = lengthIn w op := by
  cases h : isWithdrawn w op
  · rw [entryIn_kept w op b₁ b₂ h, lengthIn_kept w op h, length_decodeMain]
  · rw [entryIn_withdrawn w op b₁ b₂ h, lengthIn_withdrawn w op h]
    rfl

/-! ### Decoding -/

/-- Decoding, where the operand bytes are there. -/
theorem decodeIn_cons (w : List Byte) (op : Byte) (rest : List Byte) (h : lengthIn w op ≤ rest.length + 1) :
    decodeIn w (op :: rest) =
      .ok (entryIn w op (rest.getD 0 0) (rest.getD 1 0), rest.drop (lengthIn w op - 1)) := by
  simp only [decodeIn, Nat.not_lt.mpr h, if_false]

/-- Decoding, where they are not. -/
theorem decodeIn_truncated (w : List Byte) (op : Byte) (rest : List Byte) (h : rest.length + 1 < lengthIn w op) :
    decodeIn w (op :: rest) = .error (.truncated op) := by
  simp only [decodeIn, h, if_true]

/-- A decoded list of bytes is an opcode with its operand bytes, and the rest. -/
theorem decodeIn_ok (w bytes : List Byte) (i : Instr) (rest : List Byte) (h : decodeIn w bytes = .ok (i, rest)) :
    ∃ op tail, bytes = op :: tail ∧ lengthIn w op ≤ tail.length + 1 ∧
      i = entryIn w op (tail.getD 0 0) (tail.getD 1 0) ∧ rest = tail.drop (lengthIn w op - 1) := by
  cases bytes with
  | nil => cases h
  | cons op tail =>
    by_cases hl : tail.length + 1 < lengthIn w op
    · rw [decodeIn_truncated w op tail hl] at h
      cases h
    · rw [decodeIn_cons w op tail (Nat.not_lt.mp hl)] at h
      obtain ⟨h₁, h₂⟩ := Prod.mk.inj (Except.ok.inj h)
      exact ⟨op, tail, rfl, Nat.not_lt.mp hl, h₁.symm, h₂.symm⟩

end Sys2Proof
end

