-- ==== Sys2Proof/Laws/State.lean ====
section
/-! SUPPORT. One lemma per field of State and per operation that updates a state, so that no proof unfolds a record
update. -/

namespace Sys2Proof.Machine

/-! ### finish -/

@[simp] theorem finish_af (p : Word) (len cyc : Nat) (s : State) : (finish p len cyc s).af = s.af := rfl
@[simp] theorem finish_bc (p : Word) (len cyc : Nat) (s : State) : (finish p len cyc s).bc = s.bc := rfl
@[simp] theorem finish_de (p : Word) (len cyc : Nat) (s : State) : (finish p len cyc s).de = s.de := rfl
@[simp] theorem finish_hl (p : Word) (len cyc : Nat) (s : State) : (finish p len cyc s).hl = s.hl := rfl
@[simp] theorem finish_sp (p : Word) (len cyc : Nat) (s : State) : (finish p len cyc s).sp = s.sp := rfl
@[simp] theorem finish_pc (p : Word) (len cyc : Nat) (s : State) : (finish p len cyc s).pc = p := rfl
@[simp] theorem finish_instrLen (p : Word) (len cyc : Nat) (s : State) : (finish p len cyc s).instrLen = len := rfl
@[simp] theorem finish_instrCycles (p : Word) (len cyc : Nat) (s : State) : (finish p len cyc s).instrCycles = cyc := rfl
@[simp] theorem finish_totalCycles (p : Word) (len cyc : Nat) (s : State) : (finish p len cyc s).totalCycles = s.totalCycles := rfl
@[simp] theorem finish_trace (p : Word) (len cyc : Nat) (s : State) : (finish p len cyc s).trace = s.trace := rfl
@[simp] theorem finish_bus (p : Word) (len cyc : Nat) (s : State) : (finish p len cyc s).bus = s.bus := rfl
@[simp] theorem finish_report (p : Word) (len cyc : Nat) (s : State) : (finish p len cyc s).report = s.report := rfl
@[simp] theorem finish_diags (p : Word) (len cyc : Nat) (s : State) : (finish p len cyc s).diags = s.diags := rfl
@[simp] theorem finish_cycles (p : Word) (len cyc : Nat) (s : State) : (finish p len cyc s).cycles = s.cycles := rfl
@[simp] theorem finish_withdrawn (p : Word) (len cyc : Nat) (s : State) : (finish p len cyc s).withdrawn = s.withdrawn := rfl
@[simp] theorem finish_freeCount (p : Word) (len cyc : Nat) (s : State) : (finish p len cyc s).freeCount = s.freeCount := rfl

/-! ### retire -/

@[simp] theorem retire_af (len cyc : Nat) (s : State) : (retire len cyc s).af = s.af := rfl
@[simp] theorem retire_bc (len cyc : Nat) (s : State) : (retire len cyc s).bc = s.bc := rfl
@[simp] theorem retire_de (len cyc : Nat) (s : State) : (retire len cyc s).de = s.de := rfl
@[simp] theorem retire_hl (len cyc : Nat) (s : State) : (retire len cyc s).hl = s.hl := rfl
@[simp] theorem retire_sp (len cyc : Nat) (s : State) : (retire len cyc s).sp = s.sp := rfl
@[simp] theorem retire_pc (len cyc : Nat) (s : State) : (retire len cyc s).pc = s.pc + BitVec.ofNat 16 len := rfl
@[simp] theorem retire_instrLen (len cyc : Nat) (s : State) : (retire len cyc s).instrLen = len := rfl
@[simp] theorem retire_instrCycles (len cyc : Nat) (s : State) : (retire len cyc s).instrCycles = cyc := rfl
@[simp] theorem retire_totalCycles (len cyc : Nat) (s : State) : (retire len cyc s).totalCycles = s.totalCycles := rfl
@[simp] theorem retire_trace (len cyc : Nat) (s : State) : (retire len cyc s).trace = s.trace := rfl
@[simp] theorem retire_bus (len cyc : Nat) (s : State) : (retire len cyc s).bus = s.bus := rfl
@[simp] theorem retire_report (len cyc : Nat) (s : State) : (retire len cyc s).report = s.report := rfl
@[simp] theorem retire_diags (len cyc : Nat) (s : State) : (retire len cyc s).diags = s.diags := rfl
@[simp] theorem retire_cycles (len cyc : Nat) (s : State) : (retire len cyc s).cycles = s.cycles := rfl
@[simp] theorem retire_withdrawn (len cyc : Nat) (s : State) : (retire len cyc s).withdrawn = s.withdrawn := rfl
@[simp] theorem retire_freeCount (len cyc : Nat) (s : State) : (retire len cyc s).freeCount = s.freeCount := rfl

/-! ### emitDiag -/

@[simp] theorem emitDiag_af (d : Diag) (s : State) : (emitDiag d s).af = s.af := rfl
@[simp] theorem emitDiag_bc (d : Diag) (s : State) : (emitDiag d s).bc = s.bc := rfl
@[simp] theorem emitDiag_de (d : Diag) (s : State) : (emitDiag d s).de = s.de := rfl
@[simp] theorem emitDiag_hl (d : Diag) (s : State) : (emitDiag d s).hl = s.hl := rfl
@[simp] theorem emitDiag_sp (d : Diag) (s : State) : (emitDiag d s).sp = s.sp := rfl
@[simp] theorem emitDiag_pc (d : Diag) (s : State) : (emitDiag d s).pc = s.pc := rfl
@[simp] theorem emitDiag_instrLen (d : Diag) (s : State) : (emitDiag d s).instrLen = s.instrLen := rfl
@[simp] theorem emitDiag_instrCycles (d : Diag) (s : State) : (emitDiag d s).instrCycles = s.instrCycles := rfl
@[simp] theorem emitDiag_totalCycles (d : Diag) (s : State) : (emitDiag d s).totalCycles = s.totalCycles := rfl
@[simp] theorem emitDiag_trace (d : Diag) (s : State) : (emitDiag d s).trace = s.trace := rfl
@[simp] theorem emitDiag_bus (d : Diag) (s : State) : (emitDiag d s).bus = s.bus := rfl
@[simp] theorem emitDiag_report (d : Diag) (s : State) : (emitDiag d s).report = s.report := rfl
@[simp] theorem emitDiag_diags (d : Diag) (s : State) : (emitDiag d s).diags = d :: s.diags := rfl
@[simp] theorem emitDiag_cycles (d : Diag) (s : State) : (emitDiag d s).cycles = s.cycles := rfl
@[simp] theorem emitDiag_withdrawn (d : Diag) (s : State) : (emitDiag d s).withdrawn = s.withdrawn := rfl
@[simp] theorem emitDiag_freeCount (d : Diag) (s : State) : (emitDiag d s).freeCount = s.freeCount := rfl

/-! ### memWrite -/

@[simp] theorem memWrite_af (addr : Word) (v : Byte) (s : State) : (memWrite addr v s).af = s.af := rfl
@[simp] theorem memWrite_bc (addr : Word) (v : Byte) (s : State) : (memWrite addr v s).bc = s.bc := rfl
@[simp] theorem memWrite_de (addr : Word) (v : Byte) (s : State) : (memWrite addr v s).de = s.de := rfl
@[simp] theorem memWrite_hl (addr : Word) (v : Byte) (s : State) : (memWrite addr v s).hl = s.hl := rfl
@[simp] theorem memWrite_sp (addr : Word) (v : Byte) (s : State) : (memWrite addr v s).sp = s.sp := rfl
@[simp] theorem memWrite_pc (addr : Word) (v : Byte) (s : State) : (memWrite addr v s).pc = s.pc := rfl
@[simp] theorem memWrite_instrLen (addr : Word) (v : Byte) (s : State) : (memWrite addr v s).instrLen = s.instrLen := rfl
@[simp] theorem memWrite_instrCycles (addr : Word) (v : Byte) (s : State) : (memWrite addr v s).instrCycles = s.instrCycles := rfl
@[simp] theorem memWrite_totalCycles (addr : Word) (v : Byte) (s : State) : (memWrite addr v s).totalCycles = s.totalCycles := rfl
@[simp] theorem memWrite_trace (addr : Word) (v : Byte) (s : State) : (memWrite addr v s).trace = s.trace := rfl
@[simp] theorem memWrite_bus (addr : Word) (v : Byte) (s : State) : (memWrite addr v s).bus = s.bus.write addr v := rfl
@[simp] theorem memWrite_report (addr : Word) (v : Byte) (s : State) : (memWrite addr v s).report = s.report := rfl
@[simp] theorem memWrite_diags (addr : Word) (v : Byte) (s : State) : (memWrite addr v s).diags = s.diags := rfl
@[simp] theorem memWrite_cycles (addr : Word) (v : Byte) (s : State) : (memWrite addr v s).cycles = s.cycles := rfl
@[simp] theorem memWrite_withdrawn (addr : Word) (v : Byte) (s : State) : (memWrite addr v s).withdrawn = s.withdrawn := rfl
@[simp] theorem memWrite_freeCount (addr : Word) (v : Byte) (s : State) : (memWrite addr v s).freeCount = s.freeCount := rfl

/-! ### writeReg -/

@[simp] theorem writeReg_sp (r : Reg8) (v : Byte) (s : State) : (writeReg r v s).sp = s.sp := by cases r <;> rfl
@[simp] theorem writeReg_pc (r : Reg8) (v : Byte) (s : State) : (writeReg r v s).pc = s.pc := by cases r <;> rfl
@[simp] theorem writeReg_instrLen (r : Reg8) (v : Byte) (s : State) : (writeReg r v s).instrLen = s.instrLen := by cases r <;> rfl
@[simp] theorem writeReg_instrCycles (r : Reg8) (v : Byte) (s : State) : (writeReg r v s).instrCycles = s.instrCycles := by cases r <;> rfl
@[simp] theorem writeReg_totalCycles (r : Reg8) (v : Byte) (s : State) : (writeReg r v s).totalCycles = s.totalCycles := by cases r <;> rfl
@[simp] theorem writeReg_trace (r : Reg8) (v : Byte) (s : State) : (writeReg r v s).trace = s.trace := by cases r <;> rfl
@[simp] theorem writeReg_bus (r : Reg8) (v : Byte) (s : State) : (writeReg r v s).bus = s.bus := by cases r <;> rfl
@[simp] theorem writeReg_report (r : Reg8) (v : Byte) (s : State) : (writeReg r v s).report = s.report := by cases r <;> rfl
@[simp] theorem writeReg_diags (r : Reg8) (v : Byte) (s : State) : (writeReg r v s).diags = s.diags := by cases r <;> rfl
@[simp] theorem writeReg_cycles (r : Reg8) (v : Byte) (s : State) : (writeReg r v s).cycles = s.cycles := by cases r <;> rfl
@[simp] theorem writeReg_withdrawn (r : Reg8) (v : Byte) (s : State) : (writeReg r v s).withdrawn = s.withdrawn := by cases r <;> rfl
@[simp] theorem writeReg_freeCount (r : Reg8) (v : Byte) (s : State) : (writeReg r v s).freeCount = s.freeCount := by cases r <;> rfl

/-! ### writePair -/

@[simp] theorem writePair_af (p : RegPair) (v : Word) (s : State) : (writePair p v s).af = s.af := by cases p <;> rfl
@[simp] theorem writePair_pc (p : RegPair) (v : Word) (s : State) : (writePair p v s).pc = s.pc := by cases p <;> rfl
@[simp] theorem writePair_instrLen (p : RegPair) (v : Word) (s : State) : (writePair p v s).instrLen = s.instrLen := by cases p <;> rfl
@[simp] theorem writePair_instrCycles (p : RegPair) (v : Word) (s : State) : (writePair p v s).instrCycles = s.instrCycles := by cases p <;> rfl
@[simp] theorem writePair_totalCycles (p : RegPair) (v : Word) (s : State) : (writePair p v s).totalCycles = s.totalCycles := by cases p <;> rfl
@[simp] theorem writePair_trace (p : RegPair) (v : Word) (s : State) : (writePair p v s).trace = s.trace := by cases p <;> rfl
@[simp] theorem writePair_bus (p : RegPair) (v : Word) (s : State) : (writePair p v s).bus = s.bus := by cases p <;> rfl
@[simp] theorem writePair_report (p : RegPair) (v : Word) (s : State) : (writePair p v s).report = s.report := by cases p <;> rfl
@[simp] theorem writePair_diags (p : RegPair) (v : Word) (s : State) : (writePair p v s).diags = s.diags := by cases p <;> rfl
@[simp] theorem writePair_cycles (p : RegPair) (v : Word) (s : State) : (writePair p v s).cycles = s.cycles := by cases p <;> rfl
@[simp] theorem writePair_withdrawn (p : RegPair) (v : Word) (s : State) : (writePair p v s).withdrawn = s.withdrawn := by cases p <;> rfl
@[simp] theorem writePair_freeCount (p : RegPair) (v : Word) (s : State) : (writePair p v s).freeCount = s.freeCount := by cases p <;> rfl

/-! ### setZNHC -/

@[simp] theorem setZNHC_bc (z n h c : Bool) (s : State) : (setZNHC z n h c s).bc = s.bc := rfl
@[simp] theorem setZNHC_de (z n h c : Bool) (s : State) : (setZNHC z n h c s).de = s.de := rfl
@[simp] theorem setZNHC_hl (z n h c : Bool) (s : State) : (setZNHC z n h c s).hl = s.hl := rfl
@[simp] theorem setZNHC_sp (z n h c : Bool) (s : State) : (setZNHC z n h c s).sp = s.sp := rfl
@[simp] theorem setZNHC_pc (z n h c : Bool) (s : State) : (setZNHC z n h c s).pc = s.pc := rfl
@[simp] theorem setZNHC_instrLen (z n h c : Bool) (s : State) : (setZNHC z n h c s).instrLen = s.instrLen := rfl
@[simp] theorem setZNHC_instrCycles (z n h c : Bool) (s : State) : (setZNHC z n h c s).instrCycles = s.instrCycles := rfl
@[simp] theorem setZNHC_totalCycles (z n h c : Bool) (s : State) : (setZNHC z n h c s).totalCycles = s.totalCycles := rfl
@[simp] theorem setZNHC_trace (z n h c : Bool) (s : State) : (setZNHC z n h c s).trace = s.trace := rfl
@[simp] theorem setZNHC_bus (z n h c : Bool) (s : State) : (setZNHC z n h c s).bus = s.bus := rfl
@[simp] theorem setZNHC_report (z n h c : Bool) (s : State) : (setZNHC z n h c s).report = s.report := rfl
@[simp] theorem setZNHC_diags (z n h c : Bool) (s : State) : (setZNHC z n h c s).diags = s.diags := rfl
@[simp] theorem setZNHC_cycles (z n h c : Bool) (s : State) : (setZNHC z n h c s).cycles = s.cycles := rfl
@[simp] theorem setZNHC_withdrawn (z n h c : Bool) (s : State) : (setZNHC z n h c s).withdrawn = s.withdrawn := rfl
@[simp] theorem setZNHC_freeCount (z n h c : Bool) (s : State) : (setZNHC z n h c s).freeCount = s.freeCount := rfl

/-! ### setZNH -/

@[simp] theorem setZNH_bc (z n h : Bool) (s : State) : (setZNH z n h s).bc = s.bc := rfl
@[simp] theorem setZNH_de (z n h : Bool) (s : State) : (setZNH z n h s).de = s.de := rfl
@[simp] theorem setZNH_hl (z n h : Bool) (s : State) : (setZNH z n h s).hl = s.hl := rfl
@[simp] theorem setZNH_sp (z n h : Bool) (s : State) : (setZNH z n h s).sp = s.sp := rfl
@[simp] theorem setZNH_pc (z n h : Bool) (s : State) : (setZNH z n h s).pc = s.pc := rfl
@[simp] theorem setZNH_instrLen (z n h : Bool) (s : State) : (setZNH z n h s).instrLen = s.instrLen := rfl
@[simp] theorem setZNH_instrCycles (z n h : Bool) (s : State) : (setZNH z n h s).instrCycles = s.instrCycles := rfl
@[simp] theorem setZNH_totalCycles (z n h : Bool) (s : State) : (setZNH z n h s).totalCycles = s.totalCycles := rfl
@[simp] theorem setZNH_trace (z n h : Bool) (s : State) : (setZNH z n h s).trace = s.trace := rfl
@[simp] theorem setZNH_bus (z n h : Bool) (s : State) : (setZNH z n h s).bus = s.bus := rfl
@[simp] theorem setZNH_report (z n h : Bool) (s : State) : (setZNH z n h s).report = s.report := rfl
@[simp] theorem setZNH_diags (z n h : Bool) (s : State) : (setZNH z n h s).diags = s.diags := rfl
@[simp] theorem setZNH_cycles (z n h : Bool) (s : State) : (setZNH z n h s).cycles = s.cycles := rfl
@[simp] theorem setZNH_withdrawn (z n h : Bool) (s : State) : (setZNH z n h s).withdrawn = s.withdrawn := rfl
@[simp] theorem setZNH_freeCount (z n h : Bool) (s : State) : (setZNH z n h s).freeCount = s.freeCount := rfl

/-! ### increment8 -/

@[simp] theorem increment8_bc (v : Byte) (s : State) : (increment8 v s).bc = s.bc := rfl
@[simp] theorem increment8_de (v : Byte) (s : State) : (increment8 v s).de = s.de := rfl
@[simp] theorem increment8_hl (v : Byte) (s : State) : (increment8 v s).hl = s.hl := rfl
@[simp] theorem increment8_sp (v : Byte) (s : State) : (increment8 v s).sp = s.sp := rfl
@[simp] theorem increment8_pc (v : Byte) (s : State) : (increment8 v s).pc = s.pc := rfl
@[simp] theorem increment8_instrLen (v : Byte) (s : State) : (increment8 v s).instrLen = s.instrLen := rfl
@[simp] theorem increment8_instrCycles (v : Byte) (s : State) : (increment8 v s).instrCycles = s.instrCycles := rfl
@[simp] theorem increment8_totalCycles (v : Byte) (s : State) : (increment8 v s).totalCycles = s.totalCycles := rfl
@[simp] theorem increment8_trace (v : Byte) (s : State) : (increment8 v s).trace = s.trace := rfl
@[simp] theorem increment8_bus (v : Byte) (s : State) : (increment8 v s).bus = s.bus := rfl
@[simp] theorem increment8_report (v : Byte) (s : State) : (increment8 v s).report = s.report := rfl
@[simp] theorem increment8_diags (v : Byte) (s : State) : (increment8 v s).diags = s.diags := rfl
@[simp] theorem increment8_cycles (v : Byte) (s : State) : (increment8 v s).cycles = s.cycles := rfl
@[simp] theorem increment8_withdrawn (v : Byte) (s : State) : (increment8 v s).withdrawn = s.withdrawn := rfl
@[simp] theorem increment8_freeCount (v : Byte) (s : State) : (increment8 v s).freeCount = s.freeCount := rfl

/-! ### decrement8 -/

@[simp] theorem decrement8_bc (v : Byte) (s : State) : (decrement8 v s).bc = s.bc := rfl
@[simp] theorem decrement8_de (v : Byte) (s : State) : (decrement8 v s).de = s.de := rfl
@[simp] theorem decrement8_hl (v : Byte) (s : State) : (decrement8 v s).hl = s.hl := rfl
@[simp] theorem decrement8_sp (v : Byte) (s : State) : (decrement8 v s).sp = s.sp := rfl
@[simp] theorem decrement8_pc (v : Byte) (s : State) : (decrement8 v s).pc = s.pc := rfl
@[simp] theorem decrement8_instrLen (v : Byte) (s : State) : (decrement8 v s).instrLen = s.instrLen := rfl
@[simp] theorem decrement8_instrCycles (v : Byte) (s : State) : (decrement8 v s).instrCycles = s.instrCycles := rfl
@[simp] theorem decrement8_totalCycles (v : Byte) (s : State) : (decrement8 v s).totalCycles = s.totalCycles := rfl
@[simp] theorem decrement8_trace (v : Byte) (s : State) : (decrement8 v s).trace = s.trace := rfl
@[simp] theorem decrement8_bus (v : Byte) (s : State) : (decrement8 v s).bus = s.bus := rfl
@[simp] theorem decrement8_report (v : Byte) (s : State) : (decrement8 v s).report = s.report := rfl
@[simp] theorem decrement8_diags (v : Byte) (s : State) : (decrement8 v s).diags = s.diags := rfl
@[simp] theorem decrement8_cycles (v : Byte) (s : State) : (decrement8 v s).cycles = s.cycles := rfl
@[simp] theorem decrement8_withdrawn (v : Byte) (s : State) : (decrement8 v s).withdrawn = s.withdrawn := rfl
@[simp] theorem decrement8_freeCount (v : Byte) (s : State) : (decrement8 v s).freeCount = s.freeCount := rfl

/-! ### add8 -/

@[simp] theorem add8_bc (a b : Byte) (s : State) : (add8 a b s).bc = s.bc := rfl
@[simp] theorem add8_de (a b : Byte) (s : State) : (add8 a b s).de = s.de := rfl
@[simp] theorem add8_hl (a b : Byte) (s : State) : (add8 a b s).hl = s.hl := rfl
@[simp] theorem add8_sp (a b : Byte) (s : State) : (add8 a b s).sp = s.sp := rfl
@[simp] theorem add8_pc (a b : Byte) (s : State) : (add8 a b s).pc = s.pc := rfl
@[simp] theorem add8_instrLen (a b : Byte) (s : State) : (add8 a b s).instrLen = s.instrLen := rfl
@[simp] theorem add8_instrCycles (a b : Byte) (s : State) : (add8 a b s).instrCycles = s.instrCycles := rfl
@[simp] theorem add8_totalCycles (a b : Byte) (s : State) : (add8 a b s).totalCycles = s.totalCycles := rfl
@[simp] theorem add8_trace (a b : Byte) (s : State) : (add8 a b s).trace = s.trace := rfl
@[simp] theorem add8_bus (a b : Byte) (s : State) : (add8 a b s).bus = s.bus := rfl
@[simp] theorem add8_report (a b : Byte) (s : State) : (add8 a b s).report = s.report := rfl
@[simp] theorem add8_diags (a b : Byte) (s : State) : (add8 a b s).diags = s.diags := rfl
@[simp] theorem add8_cycles (a b : Byte) (s : State) : (add8 a b s).cycles = s.cycles := rfl
@[simp] theorem add8_withdrawn (a b : Byte) (s : State) : (add8 a b s).withdrawn = s.withdrawn := rfl
@[simp] theorem add8_freeCount (a b : Byte) (s : State) : (add8 a b s).freeCount = s.freeCount := rfl

/-! ### subtract8 -/

@[simp] theorem subtract8_bc (a b : Byte) (s : State) : (subtract8 a b s).bc = s.bc := rfl
@[simp] theorem subtract8_de (a b : Byte) (s : State) : (subtract8 a b s).de = s.de := rfl
@[simp] theorem subtract8_hl (a b : Byte) (s : State) : (subtract8 a b s).hl = s.hl := rfl
@[simp] theorem subtract8_sp (a b : Byte) (s : State) : (subtract8 a b s).sp = s.sp := rfl
@[simp] theorem subtract8_pc (a b : Byte) (s : State) : (subtract8 a b s).pc = s.pc := rfl
@[simp] theorem subtract8_instrLen (a b : Byte) (s : State) : (subtract8 a b s).instrLen = s.instrLen := rfl
@[simp] theorem subtract8_instrCycles (a b : Byte) (s : State) : (subtract8 a b s).instrCycles = s.instrCycles := rfl
@[simp] theorem subtract8_totalCycles (a b : Byte) (s : State) : (subtract8 a b s).totalCycles = s.totalCycles := rfl
@[simp] theorem subtract8_trace (a b : Byte) (s : State) : (subtract8 a b s).trace = s.trace := rfl
@[simp] theorem subtract8_bus (a b : Byte) (s : State) : (subtract8 a b s).bus = s.bus := rfl
@[simp] theorem subtract8_report (a b : Byte) (s : State) : (subtract8 a b s).report = s.report := rfl
@[simp] theorem subtract8_diags (a b : Byte) (s : State) : (subtract8 a b s).diags = s.diags := rfl
@[simp] theorem subtract8_cycles (a b : Byte) (s : State) : (subtract8 a b s).cycles = s.cycles := rfl
@[simp] theorem subtract8_withdrawn (a b : Byte) (s : State) : (subtract8 a b s).withdrawn = s.withdrawn := rfl
@[simp] theorem subtract8_freeCount (a b : Byte) (s : State) : (subtract8 a b s).freeCount = s.freeCount := rfl

/-! ### logic8 -/

@[simp] theorem logic8_bc (res : Byte) (h : Bool) (s : State) : (logic8 res h s).bc = s.bc := rfl
@[simp] theorem logic8_de (res : Byte) (h : Bool) (s : State) : (logic8 res h s).de = s.de := rfl
@[simp] theorem logic8_hl (res : Byte) (h : Bool) (s : State) : (logic8 res h s).hl = s.hl := rfl
@[simp] theorem logic8_sp (res : Byte) (h : Bool) (s : State) : (logic8 res h s).sp = s.sp := rfl
@[simp] theorem logic8_pc (res : Byte) (h : Bool) (s : State) : (logic8 res h s).pc = s.pc := rfl
@[simp] theorem logic8_instrLen (res : Byte) (h : Bool) (s : State) : (logic8 res h s).instrLen = s.instrLen := rfl
@[simp] theorem logic8_instrCycles (res : Byte) (h : Bool) (s : State) : (logic8 res h s).instrCycles = s.instrCycles := rfl
@[simp] theorem logic8_totalCycles (res : Byte) (h : Bool) (s : State) : (logic8 res h s).totalCycles = s.totalCycles := rfl
@[simp] theorem logic8_trace (res : Byte) (h : Bool) (s : State) : (logic8 res h s).trace = s.trace := rfl
@[simp] theorem logic8_bus (res : Byte) (h : Bool) (s : State) : (logic8 res h s).bus = s.bus := rfl
@[simp] theorem logic8_report (res : Byte) (h : Bool) (s : State) : (logic8 res h s).report = s.report := rfl
@[simp] theorem logic8_diags (res : Byte) (h : Bool) (s : State) : (logic8 res h s).diags = s.diags := rfl
@[simp] theorem logic8_cycles (res : Byte) (h : Bool) (s : State) : (logic8 res h s).cycles = s.cycles := rfl
@[simp] theorem logic8_withdrawn (res : Byte) (h : Bool) (s : State) : (logic8 res h s).withdrawn = s.withdrawn := rfl
@[simp] theorem logic8_freeCount (res : Byte) (h : Bool) (s : State) : (logic8 res h s).freeCount = s.freeCount := rfl

/-! ### endStep -/

@[simp] theorem endStep_af (p : Word) (op : Byte) (own : List Byte) (s : State) : (endStep p op own s).af = s.af := rfl
@[simp] theorem endStep_bc (p : Word) (op : Byte) (own : List Byte) (s : State) : (endStep p op own s).bc = s.bc := rfl
@[simp] theorem endStep_de (p : Word) (op : Byte) (own : List Byte) (s : State) : (endStep p op own s).de = s.de := rfl
@[simp] theorem endStep_hl (p : Word) (op : Byte) (own : List Byte) (s : State) : (endStep p op own s).hl = s.hl := rfl
@[simp] theorem endStep_sp (p : Word) (op : Byte) (own : List Byte) (s : State) : (endStep p op own s).sp = s.sp := rfl
@[simp] theorem endStep_pc (p : Word) (op : Byte) (own : List Byte) (s : State) : (endStep p op own s).pc = s.pc := rfl
@[simp] theorem endStep_instrLen (p : Word) (op : Byte) (own : List Byte) (s : State) : (endStep p op own s).instrLen = s.instrLen := rfl
@[simp] theorem endStep_instrCycles (p : Word) (op : Byte) (own : List Byte) (s : State) : (endStep p op own s).instrCycles = s.instrCycles := rfl
@[simp] theorem endStep_totalCycles (p : Word) (op : Byte) (own : List Byte) (s : State) : (endStep p op own s).totalCycles = s.totalCycles + s.instrCycles := rfl
@[simp] theorem endStep_trace (p : Word) (op : Byte) (own : List Byte) (s : State) : (endStep p op own s).trace = snapshot p own s := rfl
@[simp] theorem endStep_bus (p : Word) (op : Byte) (own : List Byte) (s : State) : (endStep p op own s).bus = s.bus := rfl
@[simp] theorem endStep_report (p : Word) (op : Byte) (own : List Byte) (s : State) : (endStep p op own s).report = some { opcode := op, cycles := s.instrCycles } := rfl
@[simp] theorem endStep_diags (p : Word) (op : Byte) (own : List Byte) (s : State) : (endStep p op own s).diags = s.diags := rfl
@[simp] theorem endStep_cycles (p : Word) (op : Byte) (own : List Byte) (s : State) : (endStep p op own s).cycles = s.cycles := rfl
@[simp] theorem endStep_withdrawn (p : Word) (op : Byte) (own : List Byte) (s : State) : (endStep p op own s).withdrawn = s.withdrawn := rfl
@[simp] theorem endStep_freeCount (p : Word) (op : Byte) (own : List Byte) (s : State) : (endStep p op own s).freeCount = s.freeCount + 1 := rfl

end Sys2Proof.Machine
end

