-- ==== Sys2Proof/Laws/Registers.lean ====
section
/-! SUPPORT. The register file and the flag byte: a half and its pair are one piece of storage (10_state.md rule R20),
and a flag write touches its own bit and no other (rule R22). -/

namespace Sys2Proof.Machine

/-! ### Halves of a word -/

@[simp] theorem hiByte_setHi (w : Word) (v : Byte) : hiByte (setHi w v) = v :=
  BitVec.extractLsb'_append_eq_left

@[simp] theorem loByte_setHi (w : Word) (v : Byte) : loByte (setHi w v) = loByte w :=
  BitVec.extractLsb'_append_eq_right

@[simp] theorem hiByte_setLo (w : Word) (v : Byte) : hiByte (setLo w v) = hiByte w :=
  BitVec.extractLsb'_append_eq_left

@[simp] theorem loByte_setLo (w : Word) (v : Byte) : loByte (setLo w v) = v :=
  BitVec.extractLsb'_append_eq_right

theorem word_eq_halves (w : Word) : hiByte w ++ loByte w = w := by
  apply BitVec.eq_of_toNat_eq
  simp only [hiByte, loByte, BitVec.toNat_append, BitVec.extractLsb'_toNat, Nat.shiftRight_zero]
  have := w.isLt
  rw [Nat.shiftLeft_eq, Nat.shiftRight_eq_div_pow]
  have hlt : w.toNat % 2 ^ 8 < 2 ^ 8 := Nat.mod_lt _ (by decide)
  rw [← Nat.shiftLeft_eq, ← Nat.shiftLeft_add_eq_or_of_lt hlt, Nat.shiftLeft_eq]
  omega

/-- Two words with the same halves are the same word. -/
theorem word_ext_halves (w w' : Word) (hh : hiByte w = hiByte w') (hl : loByte w = loByte w') : w = w' := by
  rw [← word_eq_halves w, ← word_eq_halves w', hh, hl]

/-! ### Registers -/

@[simp] theorem readReg_writeReg_same (r : Reg8) (v : Byte) (s : State) : readReg r (writeReg r v s) = v := by
  cases r <;> simp [readReg, writeReg]

theorem readReg_writeReg_other (q r : Reg8) (v : Byte) (s : State) (h : q ≠ r) :
    readReg q (writeReg r v s) = readReg q s := by
  cases q <;> cases r <;> simp [readReg, writeReg] at h ⊢

@[simp] theorem readF_writeReg (r : Reg8) (v : Byte) (s : State) : readF (writeReg r v s) = readF s := by
  cases r <;> simp [readF, writeReg]

@[simp] theorem readPair_writePair_same (p : RegPair) (v : Word) (s : State) : readPair p (writePair p v s) = v := by
  cases p <;> rfl

theorem readPair_writePair_other (p q : RegPair) (v : Word) (s : State) (h : q ≠ p) :
    readPair q (writePair p v s) = readPair q s := by
  cases p <;> cases q <;> first | rfl | exact absurd rfl h

@[simp] theorem readReg_finish (r : Reg8) (p : Word) (len cyc : Nat) (s : State) :
    readReg r (finish p len cyc s) = readReg r s := by cases r <;> rfl

@[simp] theorem readReg_retire (r : Reg8) (len cyc : Nat) (s : State) :
    readReg r (retire len cyc s) = readReg r s := by cases r <;> rfl

@[simp] theorem readReg_emitDiag (r : Reg8) (d : Diag) (s : State) : readReg r (emitDiag d s) = readReg r s := by
  cases r <;> rfl

@[simp] theorem readReg_memWrite (r : Reg8) (a : Word) (v : Byte) (s : State) :
    readReg r (memWrite a v s) = readReg r s := by cases r <;> rfl

@[simp] theorem readReg_endStep (r : Reg8) (p : Word) (op : Byte) (own : List Byte) (s : State) :
    readReg r (endStep p op own s) = readReg r s := by cases r <;> rfl

/-! ### Flags -/

@[simp] theorem readReg_setZNHC (r : Reg8) (z n h c : Bool) (s : State) :
    readReg r (setZNHC z n h c s) = readReg r s := by
  cases r <;> simp [readReg, setZNHC]

@[simp] theorem readReg_setZNH (r : Reg8) (z n h : Bool) (s : State) :
    readReg r (setZNH z n h s) = readReg r s := by simp [setZNH]

@[simp] theorem readReg_increment8 (r : Reg8) (v : Byte) (s : State) :
    readReg r (increment8 v s) = readReg r s := by simp [increment8]

@[simp] theorem readReg_decrement8 (r : Reg8) (v : Byte) (s : State) :
    readReg r (decrement8 v s) = readReg r s := by simp [decrement8]

@[simp] theorem readReg_add8 (r : Reg8) (a b : Byte) (s : State) : readReg r (add8 a b s) = readReg r s := by
  simp [add8]

@[simp] theorem readReg_subtract8 (r : Reg8) (a b : Byte) (s : State) :
    readReg r (subtract8 a b s) = readReg r s := by simp [subtract8]

@[simp] theorem readReg_logic8 (r : Reg8) (res : Byte) (h : Bool) (s : State) :
    readReg r (logic8 res h s) = readReg r s := by simp [logic8]

@[simp] theorem readF_setZNHC (z n h c : Bool) (s : State) :
    readF (setZNHC z n h c s) = flagByte z n h c (readF s) := by simp [readF, setZNHC]

theorem flagNibble_bits (z n h c : Bool) :
    let x := BitVec.ofBool z ++ BitVec.ofBool n ++ BitVec.ofBool h ++ BitVec.ofBool c
    x.getLsbD 3 = z ∧ x.getLsbD 2 = n ∧ x.getLsbD 1 = h ∧ x.getLsbD 0 = c := by
  revert z n h c
  decide

/-- The flags stand at bits 7, 6, 5 and 4 (10_state.md rule R22). -/
theorem flagByte_bits (z n h c : Bool) (f : Byte) :
    (flagByte z n h c f).getLsbD 7 = z ∧ (flagByte z n h c f).getLsbD 6 = n ∧
    (flagByte z n h c f).getLsbD 5 = h ∧ (flagByte z n h c f).getLsbD 4 = c := by
  obtain ⟨h₃, h₂, h₁, h₀⟩ := flagNibble_bits z n h c
  unfold flagByte
  refine ⟨?_, ?_, ?_, ?_⟩ <;> rw [BitVec.getLsbD_append] <;> assumption

/-- A flag write leaves the low nibble of F. -/
@[simp] theorem flagByte_low (z n h c : Bool) (f : Byte) :
    (flagByte z n h c f).extractLsb' 0 4 = f.extractLsb' 0 4 :=
  BitVec.extractLsb'_append_eq_right

@[simp] theorem flagZ_setZNHC (z n h c : Bool) (s : State) : flagZ (setZNHC z n h c s) = z := by
  simp only [flagZ, readF_setZNHC, (flagByte_bits z n h c (readF s)).1]

@[simp] theorem flagN_setZNHC (z n h c : Bool) (s : State) : flagN (setZNHC z n h c s) = n := by
  simp only [flagN, readF_setZNHC, (flagByte_bits z n h c (readF s)).2.1]

@[simp] theorem flagH_setZNHC (z n h c : Bool) (s : State) : flagH (setZNHC z n h c s) = h := by
  simp only [flagH, readF_setZNHC, (flagByte_bits z n h c (readF s)).2.2.1]

@[simp] theorem flagC_setZNHC (z n h c : Bool) (s : State) : flagC (setZNHC z n h c s) = c := by
  simp only [flagC, readF_setZNHC, (flagByte_bits z n h c (readF s)).2.2.2]

/-! ### What the operations leave of the flags, the pairs and memory -/

@[simp] theorem readF_finish (p : Word) (len cyc : Nat) (s : State) : readF (finish p len cyc s) = readF s := rfl
@[simp] theorem flagZ_finish (p : Word) (len cyc : Nat) (s : State) : flagZ (finish p len cyc s) = flagZ s := rfl
@[simp] theorem flagN_finish (p : Word) (len cyc : Nat) (s : State) : flagN (finish p len cyc s) = flagN s := rfl
@[simp] theorem flagH_finish (p : Word) (len cyc : Nat) (s : State) : flagH (finish p len cyc s) = flagH s := rfl
@[simp] theorem flagC_finish (p : Word) (len cyc : Nat) (s : State) : flagC (finish p len cyc s) = flagC s := rfl
@[simp] theorem readPair_finish (q : RegPair) (p : Word) (len cyc : Nat) (s : State) :
    readPair q (finish p len cyc s) = readPair q s := by cases q <;> rfl
@[simp] theorem memRead_finish (x : Word) (p : Word) (len cyc : Nat) (s : State) :
    memRead x (finish p len cyc s) = memRead x s := rfl

@[simp] theorem readF_retire (len cyc : Nat) (s : State) : readF (retire len cyc s) = readF s := rfl
@[simp] theorem flagZ_retire (len cyc : Nat) (s : State) : flagZ (retire len cyc s) = flagZ s := rfl
@[simp] theorem flagN_retire (len cyc : Nat) (s : State) : flagN (retire len cyc s) = flagN s := rfl
@[simp] theorem flagH_retire (len cyc : Nat) (s : State) : flagH (retire len cyc s) = flagH s := rfl
@[simp] theorem flagC_retire (len cyc : Nat) (s : State) : flagC (retire len cyc s) = flagC s := rfl
@[simp] theorem readPair_retire (q : RegPair) (len cyc : Nat) (s : State) :
    readPair q (retire len cyc s) = readPair q s := by cases q <;> rfl
@[simp] theorem memRead_retire (x : Word) (len cyc : Nat) (s : State) :
    memRead x (retire len cyc s) = memRead x s := rfl

@[simp] theorem readF_emitDiag (d : Diag) (s : State) : readF (emitDiag d s) = readF s := rfl
@[simp] theorem flagZ_emitDiag (d : Diag) (s : State) : flagZ (emitDiag d s) = flagZ s := rfl
@[simp] theorem flagN_emitDiag (d : Diag) (s : State) : flagN (emitDiag d s) = flagN s := rfl
@[simp] theorem flagH_emitDiag (d : Diag) (s : State) : flagH (emitDiag d s) = flagH s := rfl
@[simp] theorem flagC_emitDiag (d : Diag) (s : State) : flagC (emitDiag d s) = flagC s := rfl
@[simp] theorem readPair_emitDiag (q : RegPair) (d : Diag) (s : State) :
    readPair q (emitDiag d s) = readPair q s := by cases q <;> rfl
@[simp] theorem memRead_emitDiag (x : Word) (d : Diag) (s : State) :
    memRead x (emitDiag d s) = memRead x s := rfl

@[simp] theorem readF_memWrite (a : Word) (v : Byte) (s : State) : readF (memWrite a v s) = readF s := rfl
@[simp] theorem flagZ_memWrite (a : Word) (v : Byte) (s : State) : flagZ (memWrite a v s) = flagZ s := rfl
@[simp] theorem flagN_memWrite (a : Word) (v : Byte) (s : State) : flagN (memWrite a v s) = flagN s := rfl
@[simp] theorem flagH_memWrite (a : Word) (v : Byte) (s : State) : flagH (memWrite a v s) = flagH s := rfl
@[simp] theorem flagC_memWrite (a : Word) (v : Byte) (s : State) : flagC (memWrite a v s) = flagC s := rfl
@[simp] theorem readPair_memWrite (q : RegPair) (a : Word) (v : Byte) (s : State) :
    readPair q (memWrite a v s) = readPair q s := by cases q <;> rfl

@[simp] theorem readF_endStep (p : Word) (op : Byte) (own : List Byte) (s : State) : readF (endStep p op own s) = readF s := rfl
@[simp] theorem flagZ_endStep (p : Word) (op : Byte) (own : List Byte) (s : State) : flagZ (endStep p op own s) = flagZ s := rfl
@[simp] theorem flagN_endStep (p : Word) (op : Byte) (own : List Byte) (s : State) : flagN (endStep p op own s) = flagN s := rfl
@[simp] theorem flagH_endStep (p : Word) (op : Byte) (own : List Byte) (s : State) : flagH (endStep p op own s) = flagH s := rfl
@[simp] theorem flagC_endStep (p : Word) (op : Byte) (own : List Byte) (s : State) : flagC (endStep p op own s) = flagC s := rfl
@[simp] theorem readPair_endStep (q : RegPair) (p : Word) (op : Byte) (own : List Byte) (s : State) :
    readPair q (endStep p op own s) = readPair q s := by cases q <;> rfl
@[simp] theorem memRead_endStep (x : Word) (p : Word) (op : Byte) (own : List Byte) (s : State) :
    memRead x (endStep p op own s) = memRead x s := rfl

@[simp] theorem flagZ_writeReg (r : Reg8) (v : Byte) (s : State) : flagZ (writeReg r v s) = flagZ s := by
  simp [flagZ]
@[simp] theorem flagN_writeReg (r : Reg8) (v : Byte) (s : State) : flagN (writeReg r v s) = flagN s := by
  simp [flagN]
@[simp] theorem flagH_writeReg (r : Reg8) (v : Byte) (s : State) : flagH (writeReg r v s) = flagH s := by
  simp [flagH]
@[simp] theorem flagC_writeReg (r : Reg8) (v : Byte) (s : State) : flagC (writeReg r v s) = flagC s := by
  simp [flagC]

@[simp] theorem readF_writePair (p : RegPair) (v : Word) (s : State) : readF (writePair p v s) = readF s := by
  cases p <;> rfl

@[simp] theorem memRead_writeReg (x : Word) (r : Reg8) (v : Byte) (s : State) :
    memRead x (writeReg r v s) = memRead x s := by simp [memRead]

@[simp] theorem memRead_writePair (x : Word) (p : RegPair) (v : Word) (s : State) :
    memRead x (writePair p v s) = memRead x s := by simp [memRead]

@[simp] theorem memRead_setZNHC (x : Word) (z n h c : Bool) (s : State) :
    memRead x (setZNHC z n h c s) = memRead x s := rfl

/-- The accessor that writes F as a byte keeps its low nibble zero (10_state.md rule R21). -/
theorem writeF_low (v : Byte) (s : State) : (readF (writeF v s)).extractLsb' 0 4 = 0 := by
  simp only [readF, writeF, loByte_setLo]
  apply BitVec.eq_of_getLsbD_eq
  intro i hi
  simp only [BitVec.getLsbD_extractLsb', BitVec.getLsbD_and, Nat.zero_add]
  interval_cases i <;> simp

end Sys2Proof.Machine
end

