-- ==== Sys2Proof/Laws/Flags.lean ====
section
/-! SUPPORT. What each flag helper writes (40_alu8.md rules R101 to R105), with the comparisons said on the 8-bit
results. -/

namespace Sys2Proof.Machine

theorem byte_eq_zero_iff (v : Byte) : (v.toNat == 0) = (v == 0) := by
  rw [Bool.eq_iff_iff, beq_iff_eq, beq_iff_eq]
  constructor
  · intro h
    exact BitVec.eq_of_toNat_eq (by simpa using h)
  · intro h
    simp [h]

/-- Increment8: Z, N and H of the operand before the increment, C as before (40_alu8.md rule R101). -/
theorem increment8_flags (v : Byte) (s : State) :
    flagZ (increment8 v s) = (v + 1 == 0) ∧ flagN (increment8 v s) = false ∧
    flagH (increment8 v s) = (lowNibble v == 0xF) ∧ flagC (increment8 v s) = flagC s := by
  refine ⟨?_, by simp [increment8, setZNH], by simp [increment8, setZNH], by simp [increment8, setZNH]⟩
  rw [← byte_eq_zero_iff]
  simp [increment8, setZNH, BitVec.toNat_add]

/-- Decrement8 (40_alu8.md rule R102). -/
theorem decrement8_flags (v : Byte) (s : State) :
    flagZ (decrement8 v s) = (v - 1 == 0) ∧ flagN (decrement8 v s) = true ∧
    flagH (decrement8 v s) = (lowNibble v == 0x0) ∧ flagC (decrement8 v s) = flagC s := by
  refine ⟨?_, by simp [decrement8, setZNH], by simp [decrement8, setZNH], by simp [decrement8, setZNH]⟩
  rw [← byte_eq_zero_iff]
  simp [decrement8, setZNH, BitVec.toNat_sub, Nat.add_comm]

/-- Add8 (40_alu8.md rule R103). -/
theorem add8_flags (a b : Byte) (s : State) :
    flagZ (add8 a b s) = (a + b == 0) ∧ flagN (add8 a b s) = false ∧
    flagH (add8 a b s) = decide (lowNibble a + lowNibble b > 0xF) ∧
    flagC (add8 a b s) = decide (a.toNat + b.toNat > 0xFF) := by
  refine ⟨?_, by simp [add8], by simp [add8], by simp [add8]⟩
  rw [← byte_eq_zero_iff]
  simp [add8, BitVec.toNat_add]

/-- Subtract8 (40_alu8.md rule R104). -/
theorem subtract8_flags (a b : Byte) (s : State) :
    flagZ (subtract8 a b s) = (a - b == 0) ∧ flagN (subtract8 a b s) = true ∧
    flagH (subtract8 a b s) = decide (lowNibble a < lowNibble b) ∧
    flagC (subtract8 a b s) = decide (a.toNat < b.toNat) := by
  refine ⟨?_, by simp [subtract8], by simp [subtract8], by simp [subtract8]⟩
  rw [← byte_eq_zero_iff]
  have hb := b.isLt
  have : a.toNat + 256 - b.toNat = 256 - b.toNat + a.toNat := by omega
  simp [subtract8, BitVec.toNat_sub, this]

/-- Logic8 (40_alu8.md rule R105). -/
theorem logic8_flags (res : Byte) (h : Bool) (s : State) :
    flagZ (logic8 res h s) = (res == 0) ∧ flagN (logic8 res h s) = false ∧
    flagH (logic8 res h s) = h ∧ flagC (logic8 res h s) = false := by
  simp [logic8]

/-- No helper writes F[3:0] (10_state.md rules R21, R22). -/
theorem setZNHC_low (z n h c : Bool) (s : State) :
    (readF (setZNHC z n h c s)).extractLsb' 0 4 = (readF s).extractLsb' 0 4 := by simp

end Sys2Proof.Machine
end

