-- ==== Sys2Proof/Laws/Dispatch.lean ====
section
/-! SUPPORT. What `exec` and `step` can do, said once: the effect of each of the 24 shapes over the shared operations.
Every whole-machine proof splits over the shapes and not over the 258 constructors. -/

namespace Sys2Proof.Machine

/-- The effect of a shape on the state (40_alu8.md R106 to R113, 41_loads.md R120 to R130, 42_control.md R141 to
R146). -/
def shapeEffect : Shape → State → State
  | .nop, s => retire 1 s.cycles.nop s
  | .ldRrD16 p d16, s => setPair p d16 3 s.cycles.ldRrD16 s
  | .incR y, s => incReg y s
  | .decR y, s => decReg y s
  | .incAtHl, s => incMem .atHl s
  | .ldRD8 y d8, s => setReg y d8 2 s.cycles.ldRD8 s
  | .ldAtHlD8 d8, s => storeTo .atHl d8 2 s.cycles.ldAtHlD8 s
  | .addAR z, s => addToA (readReg z s) s.cycles.addAR s
  | .addAAtHl, s => addToA (readAt .atHl s) s.cycles.addAAtHl s
  | .subR z, s => subFromA (readReg z s) s.cycles.subR s
  | .subAtHl, s => subFromA (readAt .atHl s) s.cycles.subAtHl s
  | .xorA, s => xorAWithA s
  | .jpA16 a16, s => finish a16 3 jpCycles s
  | .halt, s => finish s.pc 1 s.cycles.halt s
  | .prefixCb cbop, s => invalidCb cbop s
  | .ldRR y z, s => setReg y (readReg z s) 1 s.cycles.ldRR s
  | .ldRAtHl y, s => loadFrom y .atHl 1 s.cycles.ldRAtHl s
  | .ldAtHlR z, s => storeTo .atHl (readReg z s) 1 s.cycles.ldAtHlR s
  | .ldAAtRr .bc, s => loadFrom .a .atBc 1 s.cycles.ldAAtRr s
  | .ldAAtRr _, s => loadFrom .a .atDe 1 s.cycles.ldAAtRr s
  | .ldAtRrA .bc, s => storeTo .atBc (readReg .a s) 1 s.cycles.ldAtRrA s
  | .ldAtRrA _, s => storeTo .atDe (readReg .a s) 1 s.cycles.ldAtRrA s
  | .ldAAtA16 a16, s => loadFrom .a (.absolute a16) 3 s.cycles.ldAAtA16 s
  | .ldAtA16A a16, s => storeTo (.absolute a16) (readReg .a s) 3 s.cycles.ldAtA16A s
  | .invalid op, s => invalidMain op s
  | .invalidCb cbop, s => invalidCb cbop s

/-- Every instruction runs to a next state, the effect of its shape. -/
theorem exec_eq_shapeEffect (i : Instr) (s : State) : exec i s = .next (shapeEffect i.shape s) := by
  cases i <;> rfl

/-- A pair-indirect shape has the pair BC or DE (10_state.md rule R25). -/
theorem shape_pair_bc_or_de (i : Instr) :
    (∀ p, i.shape = .ldAAtRr p → p = .bc ∨ p = .de) ∧ (∀ p, i.shape = .ldAtRrA p → p = .bc ∨ p = .de) := by
  cases i <;> simp [Instr.shape]

/-- A step is the effect of the fetched instruction's shape, then trace, count and report. -/
theorem step_eq (s : State) :
    step s = .next (endStep s.pc (fetchedOpcode s) (ownBytes s) (shapeEffect (fetchInstr s).shape s)) := by
  simp only [step, exec_eq_shapeEffect]

end Sys2Proof.Machine
end

