-- ==== Sys2Proof/Laws/PerInstr.lean ====
section
/-! SUPPORT. Facts stated for every instruction, one lemma per constructor. -/

namespace Sys2Proof.Laws.EncodedLength

/-- The encoding of an instruction is as long as its shape says (70_reset_and_hazards.md rule R180, the column
`instr_len`; 30_encoding.md rule R80). -/
def Statement (i : Instr) : Prop := (encode i).length = i.shape.length

theorem nop : Statement .nop := rfl
theorem ldBcD16 (d16 : Word) : Statement (.ldBcD16 d16) := rfl
theorem ldAtBcA : Statement .ldAtBcA := rfl
theorem invalid03 : Statement .invalid03 := rfl
theorem incB : Statement .incB := rfl
theorem decB : Statement .decB := rfl
theorem ldBD8 (d8 : Byte) : Statement (.ldBD8 d8) := rfl
theorem invalid07 : Statement .invalid07 := rfl
theorem invalid08 : Statement .invalid08 := rfl
theorem invalid09 : Statement .invalid09 := rfl
theorem ldAAtBc : Statement .ldAAtBc := rfl
theorem invalid0B : Statement .invalid0B := rfl
theorem incC : Statement .incC := rfl
theorem decC : Statement .decC := rfl
theorem ldCD8 (d8 : Byte) : Statement (.ldCD8 d8) := rfl
theorem invalid0F : Statement .invalid0F := rfl
theorem invalid10 : Statement .invalid10 := rfl
theorem ldDeD16 (d16 : Word) : Statement (.ldDeD16 d16) := rfl
theorem ldAtDeA : Statement .ldAtDeA := rfl
theorem invalid13 : Statement .invalid13 := rfl
theorem incD : Statement .incD := rfl
theorem decD : Statement .decD := rfl
theorem ldDD8 (d8 : Byte) : Statement (.ldDD8 d8) := rfl
theorem invalid17 : Statement .invalid17 := rfl
theorem invalid18 : Statement .invalid18 := rfl
theorem invalid19 : Statement .invalid19 := rfl
theorem ldAAtDe : Statement .ldAAtDe := rfl
theorem invalid1B : Statement .invalid1B := rfl
theorem incE : Statement .incE := rfl
theorem decE : Statement .decE := rfl
theorem ldED8 (d8 : Byte) : Statement (.ldED8 d8) := rfl
theorem invalid1F : Statement .invalid1F := rfl
theorem invalid20 : Statement .invalid20 := rfl
theorem ldHlD16 (d16 : Word) : Statement (.ldHlD16 d16) := rfl
theorem invalid22 : Statement .invalid22 := rfl
theorem invalid23 : Statement .invalid23 := rfl
theorem incH : Statement .incH := rfl
theorem decH : Statement .decH := rfl
theorem ldHD8 (d8 : Byte) : Statement (.ldHD8 d8) := rfl
theorem invalid27 : Statement .invalid27 := rfl
theorem invalid28 : Statement .invalid28 := rfl
theorem invalid29 : Statement .invalid29 := rfl
theorem invalid2A : Statement .invalid2A := rfl
theorem invalid2B : Statement .invalid2B := rfl
theorem incL : Statement .incL := rfl
theorem decL : Statement .decL := rfl
theorem ldLD8 (d8 : Byte) : Statement (.ldLD8 d8) := rfl
theorem invalid2F : Statement .invalid2F := rfl
theorem invalid30 : Statement .invalid30 := rfl
theorem ldSpD16 (d16 : Word) : Statement (.ldSpD16 d16) := rfl
theorem invalid32 : Statement .invalid32 := rfl
theorem invalid33 : Statement .invalid33 := rfl
theorem incAtHl : Statement .incAtHl := rfl
theorem invalid35 : Statement .invalid35 := rfl
theorem ldAtHlD8 (d8 : Byte) : Statement (.ldAtHlD8 d8) := rfl
theorem invalid37 : Statement .invalid37 := rfl
theorem invalid38 : Statement .invalid38 := rfl
theorem invalid39 : Statement .invalid39 := rfl
theorem invalid3A : Statement .invalid3A := rfl
theorem invalid3B : Statement .invalid3B := rfl
theorem incA : Statement .incA := rfl
theorem decA : Statement .decA := rfl
theorem ldAD8 (d8 : Byte) : Statement (.ldAD8 d8) := rfl
theorem invalid3F : Statement .invalid3F := rfl
theorem ldBB : Statement .ldBB := rfl
theorem ldBC : Statement .ldBC := rfl
theorem ldBD : Statement .ldBD := rfl
theorem ldBE : Statement .ldBE := rfl
theorem ldBH : Statement .ldBH := rfl
theorem ldBL : Statement .ldBL := rfl
theorem ldBAtHl : Statement .ldBAtHl := rfl
theorem ldBA : Statement .ldBA := rfl
theorem ldCB : Statement .ldCB := rfl
theorem ldCC : Statement .ldCC := rfl
theorem ldCD : Statement .ldCD := rfl
theorem ldCE : Statement .ldCE := rfl
theorem ldCH : Statement .ldCH := rfl
theorem ldCL : Statement .ldCL := rfl
theorem ldCAtHl : Statement .ldCAtHl := rfl
theorem ldCA : Statement .ldCA := rfl
theorem ldDB : Statement .ldDB := rfl
theorem ldDC : Statement .ldDC := rfl
theorem ldDD : Statement .ldDD := rfl
theorem ldDE : Statement .ldDE := rfl
theorem ldDH : Statement .ldDH := rfl
theorem ldDL : Statement .ldDL := rfl
theorem ldDAtHl : Statement .ldDAtHl := rfl
theorem ldDA : Statement .ldDA := rfl
theorem ldEB : Statement .ldEB := rfl
theorem ldEC : Statement .ldEC := rfl
theorem ldED : Statement .ldED := rfl
theorem ldEE : Statement .ldEE := rfl
theorem ldEH : Statement .ldEH := rfl
theorem ldEL : Statement .ldEL := rfl
theorem ldEAtHl : Statement .ldEAtHl := rfl
theorem ldEA : Statement .ldEA := rfl
theorem ldHB : Statement .ldHB := rfl
theorem ldHC : Statement .ldHC := rfl
theorem ldHD : Statement .ldHD := rfl
theorem ldHE : Statement .ldHE := rfl
theorem ldHH : Statement .ldHH := rfl
theorem ldHL : Statement .ldHL := rfl
theorem ldHAtHl : Statement .ldHAtHl := rfl
theorem ldHA : Statement .ldHA := rfl
theorem ldLB : Statement .ldLB := rfl
theorem ldLC : Statement .ldLC := rfl
theorem ldLD : Statement .ldLD := rfl
theorem ldLE : Statement .ldLE := rfl
theorem ldLH : Statement .ldLH := rfl
theorem ldLL : Statement .ldLL := rfl
theorem ldLAtHl : Statement .ldLAtHl := rfl
theorem ldLA : Statement .ldLA := rfl
theorem ldAtHlB : Statement .ldAtHlB := rfl
theorem ldAtHlC : Statement .ldAtHlC := rfl
theorem ldAtHlD : Statement .ldAtHlD := rfl
theorem ldAtHlE : Statement .ldAtHlE := rfl
theorem ldAtHlH : Statement .ldAtHlH := rfl
theorem ldAtHlL : Statement .ldAtHlL := rfl
theorem halt : Statement .halt := rfl
theorem ldAtHlA : Statement .ldAtHlA := rfl
theorem ldAB : Statement .ldAB := rfl
theorem ldAC : Statement .ldAC := rfl
theorem ldAD : Statement .ldAD := rfl
theorem ldAE : Statement .ldAE := rfl
theorem ldAH : Statement .ldAH := rfl
theorem ldAL : Statement .ldAL := rfl
theorem ldAAtHl : Statement .ldAAtHl := rfl
theorem ldAA : Statement .ldAA := rfl
theorem addAB : Statement .addAB := rfl
theorem addAC : Statement .addAC := rfl
theorem addAD : Statement .addAD := rfl
theorem addAE : Statement .addAE := rfl
theorem addAH : Statement .addAH := rfl
theorem addAL : Statement .addAL := rfl
theorem addAAtHl : Statement .addAAtHl := rfl
theorem addAA : Statement .addAA := rfl
theorem invalid88 : Statement .invalid88 := rfl
theorem invalid89 : Statement .invalid89 := rfl
theorem invalid8A : Statement .invalid8A := rfl
theorem invalid8B : Statement .invalid8B := rfl
theorem invalid8C : Statement .invalid8C := rfl
theorem invalid8D : Statement .invalid8D := rfl
theorem invalid8E : Statement .invalid8E := rfl
theorem invalid8F : Statement .invalid8F := rfl
theorem subB : Statement .subB := rfl
theorem subC : Statement .subC := rfl
theorem subD : Statement .subD := rfl
theorem subE : Statement .subE := rfl
theorem subH : Statement .subH := rfl
theorem subL : Statement .subL := rfl
theorem subAtHl : Statement .subAtHl := rfl
theorem subA : Statement .subA := rfl
theorem invalid98 : Statement .invalid98 := rfl
theorem invalid99 : Statement .invalid99 := rfl
theorem invalid9A : Statement .invalid9A := rfl
theorem invalid9B : Statement .invalid9B := rfl
theorem invalid9C : Statement .invalid9C := rfl
theorem invalid9D : Statement .invalid9D := rfl
theorem invalid9E : Statement .invalid9E := rfl
theorem invalid9F : Statement .invalid9F := rfl
theorem invalidA0 : Statement .invalidA0 := rfl
theorem invalidA1 : Statement .invalidA1 := rfl
theorem invalidA2 : Statement .invalidA2 := rfl
theorem invalidA3 : Statement .invalidA3 := rfl
theorem invalidA4 : Statement .invalidA4 := rfl
theorem invalidA5 : Statement .invalidA5 := rfl
theorem invalidA6 : Statement .invalidA6 := rfl
theorem invalidA7 : Statement .invalidA7 := rfl
theorem invalidA8 : Statement .invalidA8 := rfl
theorem invalidA9 : Statement .invalidA9 := rfl
theorem invalidAA : Statement .invalidAA := rfl
theorem invalidAB : Statement .invalidAB := rfl
theorem invalidAC : Statement .invalidAC := rfl
theorem invalidAD : Statement .invalidAD := rfl
theorem invalidAE : Statement .invalidAE := rfl
theorem xorA : Statement .xorA := rfl
theorem invalidB0 : Statement .invalidB0 := rfl
theorem invalidB1 : Statement .invalidB1 := rfl
theorem invalidB2 : Statement .invalidB2 := rfl
theorem invalidB3 : Statement .invalidB3 := rfl
theorem invalidB4 : Statement .invalidB4 := rfl
theorem invalidB5 : Statement .invalidB5 := rfl
theorem invalidB6 : Statement .invalidB6 := rfl
theorem invalidB7 : Statement .invalidB7 := rfl
theorem invalidB8 : Statement .invalidB8 := rfl
theorem invalidB9 : Statement .invalidB9 := rfl
theorem invalidBA : Statement .invalidBA := rfl
theorem invalidBB : Statement .invalidBB := rfl
theorem invalidBC : Statement .invalidBC := rfl
theorem invalidBD : Statement .invalidBD := rfl
theorem invalidBE : Statement .invalidBE := rfl
theorem invalidBF : Statement .invalidBF := rfl
theorem invalidC0 : Statement .invalidC0 := rfl
theorem invalidC1 : Statement .invalidC1 := rfl
theorem invalidC2 : Statement .invalidC2 := rfl
theorem jpA16 (a16 : Word) : Statement (.jpA16 a16) := rfl
theorem invalidC4 : Statement .invalidC4 := rfl
theorem invalidC5 : Statement .invalidC5 := rfl
theorem invalidC6 : Statement .invalidC6 := rfl
theorem invalidC7 : Statement .invalidC7 := rfl
theorem invalidC8 : Statement .invalidC8 := rfl
theorem invalidC9 : Statement .invalidC9 := rfl
theorem invalidCA : Statement .invalidCA := rfl
theorem prefixCb (cbop : Byte) : Statement (.prefixCb cbop) := rfl
theorem invalidCC : Statement .invalidCC := rfl
theorem invalidCD : Statement .invalidCD := rfl
theorem invalidCE : Statement .invalidCE := rfl
theorem invalidCF : Statement .invalidCF := rfl
theorem invalidD0 : Statement .invalidD0 := rfl
theorem invalidD1 : Statement .invalidD1 := rfl
theorem invalidD2 : Statement .invalidD2 := rfl
theorem invalidD3 : Statement .invalidD3 := rfl
theorem invalidD4 : Statement .invalidD4 := rfl
theorem invalidD5 : Statement .invalidD5 := rfl
theorem invalidD6 : Statement .invalidD6 := rfl
theorem invalidD7 : Statement .invalidD7 := rfl
theorem invalidD8 : Statement .invalidD8 := rfl
theorem invalidD9 : Statement .invalidD9 := rfl
theorem invalidDA : Statement .invalidDA := rfl
theorem invalidDB : Statement .invalidDB := rfl
theorem invalidDC : Statement .invalidDC := rfl
theorem invalidDD : Statement .invalidDD := rfl
theorem invalidDE : Statement .invalidDE := rfl
theorem invalidDF : Statement .invalidDF := rfl
theorem invalidE0 : Statement .invalidE0 := rfl
theorem invalidE1 : Statement .invalidE1 := rfl
theorem invalidE2 : Statement .invalidE2 := rfl
theorem invalidE3 : Statement .invalidE3 := rfl
theorem invalidE4 : Statement .invalidE4 := rfl
theorem invalidE5 : Statement .invalidE5 := rfl
theorem invalidE6 : Statement .invalidE6 := rfl
theorem invalidE7 : Statement .invalidE7 := rfl
theorem invalidE8 : Statement .invalidE8 := rfl
theorem invalidE9 : Statement .invalidE9 := rfl
theorem ldAtA16A (a16 : Word) : Statement (.ldAtA16A a16) := rfl
theorem invalidEB : Statement .invalidEB := rfl
theorem invalidEC : Statement .invalidEC := rfl
theorem invalidED : Statement .invalidED := rfl
theorem invalidEE : Statement .invalidEE := rfl
theorem invalidEF : Statement .invalidEF := rfl
theorem invalidF0 : Statement .invalidF0 := rfl
theorem invalidF1 : Statement .invalidF1 := rfl
theorem invalidF2 : Statement .invalidF2 := rfl
theorem invalidF3 : Statement .invalidF3 := rfl
theorem invalidF4 : Statement .invalidF4 := rfl
theorem invalidF5 : Statement .invalidF5 := rfl
theorem invalidF6 : Statement .invalidF6 := rfl
theorem invalidF7 : Statement .invalidF7 := rfl
theorem invalidF8 : Statement .invalidF8 := rfl
theorem invalidF9 : Statement .invalidF9 := rfl
theorem ldAAtA16 (a16 : Word) : Statement (.ldAAtA16 a16) := rfl
theorem invalidFB : Statement .invalidFB := rfl
theorem invalidFC : Statement .invalidFC := rfl
theorem invalidFD : Statement .invalidFD := rfl
theorem invalidFE : Statement .invalidFE := rfl
theorem invalidFF : Statement .invalidFF := rfl
theorem invalidCbCbop (cbop : Byte) : Statement (.invalidCbCbop cbop) := rfl
theorem invalidWithdrawn (op : Byte) : Statement (.invalidWithdrawn op) := rfl

end Sys2Proof.Laws.EncodedLength
end

