-- ==== Sys2Proof/Tests/Slice0.lean ====
section
/-! SUPPORT. The model's own tests: every constructor's decoding, the ill-formed term, the vectors of 95_test_vectors.md
(expected values are the spec's), and for each statement with hypotheses a state and operands that meet them. -/

namespace Sys2Proof.Tests

open Sys2Proof Sys2Proof.Machine Sys2Proof.Claim

/-- The convention of 95_test_vectors.md: reset, PC_INIT 0x0000, CART holding exactly these bytes at address 0. -/
def prog (bytes : List Byte) : State :=
  State.launch
    { cart := some bytes, pcInit := 0x0000, ieInit := 0x00, cycles := defaultCycles, withdrawn := [],
      instrLenInit := 0 }

/-- The state after one step. -/
def after (s : State) : State :=
  match step s with
  | .next t => t
  | .fault _ => s
  | .refused _ => s

/-- The instruction at the head of some bytes. -/
def decoded (bytes : List Byte) : Option Instr :=
  match decode bytes with
  | .ok (i, _) => some i
  | .error _ => none

/-! ### Well-formedness -/

/-- The words 0xCB, cbop are PREFIX CB's in the main table, so the second entry's own term is ill-formed (log 2). -/
theorem test_wellFormed_refuses_secondary_entry : (Instr.invalidCbCbop 0x11).wellFormed = false := by decide

/-- A withdrawn byte is refused under the table of rule R86, and, where the source names it, under every table. -/
theorem test_wellFormed_refuses_withdrawn :
    (Instr.invalidWithdrawn 0x04).wellFormed = false ∧ (Instr.invalidWithdrawn 0x04).wellFormedIn [] = false ∧
    (Instr.invalidWithdrawn 0x76).wellFormedIn [0x76] = false := by decide

theorem test_wellFormed_takes_prefix : (Instr.prefixCb 0x11).wellFormed = true := by decide

/-! ### Decoding: words written from 30_encoding.md rules R82 to R84, R89, R90 -/

theorem test_decode_nop : decoded [0b00000000] = some .nop := by decide

theorem test_decode_ldRrD16 :
    [[0b00000001, 0x34, 0x12], [0b00010001, 0x34, 0x12], [0b00100001, 0x34, 0x12],
       [0b00110001, 0x34, 0x12]].map decoded =
      [some (.ldBcD16 0x1234), some (.ldDeD16 0x1234), some (.ldHlD16 0x1234), some (.ldSpD16 0x1234)] := by decide

theorem test_decode_incR :
    [[0b00000100], [0b00001100], [0b00010100], [0b00011100], [0b00100100], [0b00101100], [0b00111100]].map decoded =
      [some .incB, some .incC, some .incD, some .incE, some .incH, some .incL, some .incA] := by decide

theorem test_decode_decR :
    [[0b00000101], [0b00001101], [0b00010101], [0b00011101], [0b00100101], [0b00101101], [0b00111101]].map decoded =
      [some .decB, some .decC, some .decD, some .decE, some .decH, some .decL, some .decA] := by decide

theorem test_decode_incAtHl : decoded [0b00110100] = some .incAtHl := by decide

theorem test_decode_ldRD8 :
    [[0b00000110, 0x80], [0b00001110, 0x80], [0b00010110, 0x80], [0b00011110, 0x80], [0b00100110, 0x80],
       [0b00101110, 0x80], [0b00111110, 0x80]].map decoded =
      [some (.ldBD8 0x80), some (.ldCD8 0x80), some (.ldDD8 0x80), some (.ldED8 0x80), some (.ldHD8 0x80),
       some (.ldLD8 0x80), some (.ldAD8 0x80)] := by decide

theorem test_decode_ldAtHlD8 : decoded [0b00110110, 0x80] = some (.ldAtHlD8 0x80) := by decide

theorem test_decode_addAR :
    [[0b10000000], [0b10000001], [0b10000010], [0b10000011], [0b10000100], [0b10000101], [0b10000111]].map decoded =
      [some .addAB, some .addAC, some .addAD, some .addAE, some .addAH, some .addAL, some .addAA] := by decide

theorem test_decode_addAAtHl : decoded [0b10000110] = some .addAAtHl := by decide

theorem test_decode_subR :
    [[0b10010000], [0b10010001], [0b10010010], [0b10010011], [0b10010100], [0b10010101], [0b10010111]].map decoded =
      [some .subB, some .subC, some .subD, some .subE, some .subH, some .subL, some .subA] := by decide

theorem test_decode_subAtHl : decoded [0b10010110] = some .subAtHl := by decide

theorem test_decode_xorA : decoded [0b10101111] = some .xorA := by decide

theorem test_decode_jpA16 : decoded [0b11000011, 0x34, 0x12] = some (.jpA16 0x1234) := by decide

theorem test_decode_halt : decoded [0b01110110] = some .halt := by decide

theorem test_decode_prefixCb : decoded [0b11001011, 0x76] = some (.prefixCb 0x76) := by decide

theorem test_decode_ldRR_0 :
    [[0b01000000], [0b01000001], [0b01000010], [0b01000011], [0b01000100], [0b01000101], [0b01000111]].map decoded =
      [some .ldBB, some .ldBC, some .ldBD, some .ldBE, some .ldBH, some .ldBL, some .ldBA] := by decide

theorem test_decode_ldRR_1 :
    [[0b01001000], [0b01001001], [0b01001010], [0b01001011], [0b01001100], [0b01001101], [0b01001111]].map decoded =
      [some .ldCB, some .ldCC, some .ldCD, some .ldCE, some .ldCH, some .ldCL, some .ldCA] := by decide

theorem test_decode_ldRR_2 :
    [[0b01010000], [0b01010001], [0b01010010], [0b01010011], [0b01010100], [0b01010101], [0b01010111]].map decoded =
      [some .ldDB, some .ldDC, some .ldDD, some .ldDE, some .ldDH, some .ldDL, some .ldDA] := by decide

theorem test_decode_ldRR_3 :
    [[0b01011000], [0b01011001], [0b01011010], [0b01011011], [0b01011100], [0b01011101], [0b01011111]].map decoded =
      [some .ldEB, some .ldEC, some .ldED, some .ldEE, some .ldEH, some .ldEL, some .ldEA] := by decide

theorem test_decode_ldRR_4 :
    [[0b01100000], [0b01100001], [0b01100010], [0b01100011], [0b01100100], [0b01100101], [0b01100111]].map decoded =
      [some .ldHB, some .ldHC, some .ldHD, some .ldHE, some .ldHH, some .ldHL, some .ldHA] := by decide

theorem test_decode_ldRR_5 :
    [[0b01101000], [0b01101001], [0b01101010], [0b01101011], [0b01101100], [0b01101101], [0b01101111]].map decoded =
      [some .ldLB, some .ldLC, some .ldLD, some .ldLE, some .ldLH, some .ldLL, some .ldLA] := by decide

theorem test_decode_ldRR_6 :
    [[0b01111000], [0b01111001], [0b01111010], [0b01111011], [0b01111100], [0b01111101], [0b01111111]].map decoded =
      [some .ldAB, some .ldAC, some .ldAD, some .ldAE, some .ldAH, some .ldAL, some .ldAA] := by decide

theorem test_decode_ldRAtHl :
    [[0b01000110], [0b01001110], [0b01010110], [0b01011110], [0b01100110], [0b01101110], [0b01111110]].map decoded =
      [some .ldBAtHl, some .ldCAtHl, some .ldDAtHl, some .ldEAtHl, some .ldHAtHl, some .ldLAtHl,
       some .ldAAtHl] := by decide

theorem test_decode_ldAtHlR :
    [[0b01110000], [0b01110001], [0b01110010], [0b01110011], [0b01110100], [0b01110101], [0b01110111]].map decoded =
      [some .ldAtHlB, some .ldAtHlC, some .ldAtHlD, some .ldAtHlE, some .ldAtHlH, some .ldAtHlL,
       some .ldAtHlA] := by decide

theorem test_decode_ldAAtRr :
    [[0b00001010], [0b00011010]].map decoded =
      [some .ldAAtBc, some .ldAAtDe] := by decide

theorem test_decode_ldAtRrA :
    [[0b00000010], [0b00010010]].map decoded =
      [some .ldAtBcA, some .ldAtDeA] := by decide

theorem test_decode_ldAAtA16 : decoded [0b11111010, 0x34, 0x12] = some (.ldAAtA16 0x1234) := by decide

theorem test_decode_ldAtA16A : decoded [0b11101010, 0x34, 0x12] = some (.ldAtA16A 0x1234) := by decide

/-- The secondary table's one row of the opcode table, in that row's own numbering (log 2). -/
theorem test_decode_invalidCbCbop : decodeTableWord 16 0xCB76 = some (.invalidCbCbop 0x76) := by decide

theorem test_decode_invalid_0x :
    [[0x03], [0x07], [0x08], [0x09], [0x0B], [0x0F]].map decoded =
      [some .invalid03, some .invalid07, some .invalid08, some .invalid09, some .invalid0B,
       some .invalid0F] := by decide

theorem test_decode_invalid_1x :
    [[0x10], [0x13], [0x17], [0x18], [0x19], [0x1B], [0x1F]].map decoded =
      [some .invalid10, some .invalid13, some .invalid17, some .invalid18, some .invalid19,
       some .invalid1B, some .invalid1F] := by decide

theorem test_decode_invalid_2x :
    [[0x20], [0x22], [0x23], [0x27], [0x28], [0x29], [0x2A], [0x2B], [0x2F]].map decoded =
      [some .invalid20, some .invalid22, some .invalid23, some .invalid27, some .invalid28,
       some .invalid29, some .invalid2A, some .invalid2B, some .invalid2F] := by decide

theorem test_decode_invalid_3x :
    [[0x30], [0x32], [0x33], [0x35], [0x37], [0x38], [0x39], [0x3A], [0x3B], [0x3F]].map decoded =
      [some .invalid30, some .invalid32, some .invalid33, some .invalid35, some .invalid37,
       some .invalid38, some .invalid39, some .invalid3A, some .invalid3B, some .invalid3F] := by decide

theorem test_decode_invalid_8x :
    [[0x88], [0x89], [0x8A], [0x8B], [0x8C], [0x8D], [0x8E], [0x8F]].map decoded =
      [some .invalid88, some .invalid89, some .invalid8A, some .invalid8B, some .invalid8C,
       some .invalid8D, some .invalid8E, some .invalid8F] := by decide

theorem test_decode_invalid_9x :
    [[0x98], [0x99], [0x9A], [0x9B], [0x9C], [0x9D], [0x9E], [0x9F]].map decoded =
      [some .invalid98, some .invalid99, some .invalid9A, some .invalid9B, some .invalid9C,
       some .invalid9D, some .invalid9E, some .invalid9F] := by decide

theorem test_decode_invalid_Ax :
    [[0xA0], [0xA1], [0xA2], [0xA3], [0xA4], [0xA5], [0xA6], [0xA7],
       [0xA8], [0xA9], [0xAA], [0xAB], [0xAC], [0xAD], [0xAE]].map decoded =
      [some .invalidA0, some .invalidA1, some .invalidA2, some .invalidA3, some .invalidA4,
       some .invalidA5, some .invalidA6, some .invalidA7, some .invalidA8, some .invalidA9,
       some .invalidAA, some .invalidAB, some .invalidAC, some .invalidAD, some .invalidAE] := by decide

theorem test_decode_invalid_Bx :
    [[0xB0], [0xB1], [0xB2], [0xB3], [0xB4], [0xB5], [0xB6], [0xB7],
       [0xB8], [0xB9], [0xBA], [0xBB], [0xBC], [0xBD], [0xBE], [0xBF]].map decoded =
      [some .invalidB0, some .invalidB1, some .invalidB2, some .invalidB3, some .invalidB4,
       some .invalidB5, some .invalidB6, some .invalidB7, some .invalidB8, some .invalidB9,
       some .invalidBA, some .invalidBB, some .invalidBC, some .invalidBD, some .invalidBE,
       some .invalidBF] := by decide

theorem test_decode_invalid_Cx :
    [[0xC0], [0xC1], [0xC2], [0xC4], [0xC5], [0xC6], [0xC7], [0xC8],
       [0xC9], [0xCA], [0xCC], [0xCD], [0xCE], [0xCF]].map decoded =
      [some .invalidC0, some .invalidC1, some .invalidC2, some .invalidC4, some .invalidC5,
       some .invalidC6, some .invalidC7, some .invalidC8, some .invalidC9, some .invalidCA,
       some .invalidCC, some .invalidCD, some .invalidCE, some .invalidCF] := by decide

theorem test_decode_invalid_Dx :
    [[0xD0], [0xD1], [0xD2], [0xD3], [0xD4], [0xD5], [0xD6], [0xD7],
       [0xD8], [0xD9], [0xDA], [0xDB], [0xDC], [0xDD], [0xDE], [0xDF]].map decoded =
      [some .invalidD0, some .invalidD1, some .invalidD2, some .invalidD3, some .invalidD4,
       some .invalidD5, some .invalidD6, some .invalidD7, some .invalidD8, some .invalidD9,
       some .invalidDA, some .invalidDB, some .invalidDC, some .invalidDD, some .invalidDE,
       some .invalidDF] := by decide

theorem test_decode_invalid_Ex :
    [[0xE0], [0xE1], [0xE2], [0xE3], [0xE4], [0xE5], [0xE6], [0xE7],
       [0xE8], [0xE9], [0xEB], [0xEC], [0xED], [0xEE], [0xEF]].map decoded =
      [some .invalidE0, some .invalidE1, some .invalidE2, some .invalidE3, some .invalidE4,
       some .invalidE5, some .invalidE6, some .invalidE7, some .invalidE8, some .invalidE9,
       some .invalidEB, some .invalidEC, some .invalidED, some .invalidEE, some .invalidEF] := by decide

theorem test_decode_invalid_Fx :
    [[0xF0], [0xF1], [0xF2], [0xF3], [0xF4], [0xF5], [0xF6], [0xF7],
       [0xF8], [0xF9], [0xFB], [0xFC], [0xFD], [0xFE], [0xFF]].map decoded =
      [some .invalidF0, some .invalidF1, some .invalidF2, some .invalidF3, some .invalidF4,
       some .invalidF5, some .invalidF6, some .invalidF7, some .invalidF8, some .invalidF9,
       some .invalidFB, some .invalidFC, some .invalidFD, some .invalidFE, some .invalidFF] := by decide

/-- The decoding of a withdrawn byte (log 1). -/
theorem test_decode_invalidWithdrawn :
    decodeIn [0x04] [0b00000100] = .ok (.invalidWithdrawn 0x04, []) := by decide

/-- A list that ends before the operand bytes holds no instruction. -/
theorem test_decode_truncated : decode [0x21, 0x00] = .error (.truncated 0x21) := by decide
/-! ### The vectors of 95_test_vectors.md -/

/-- V1, S1, S2: B and F before; BC, AF, PC and the cost after. -/
def incB (b f : Byte) : Word × Word × Word × Nat :=
  let t := after { prog [0x04] with bc := word16 b 0x13, af := word16 0x01 f }
  (t.bc, t.af, t.pc, t.instrCycles)

theorem test_incB_half_carry : incB 0x0F 0x10 = (0x1013, 0x0130, 0x0001, 4) := by decide

theorem test_incB_wraps : incB 0xFF 0xF0 = (0x0013, 0x01B0, 0x0001, 4) := by decide

/-- V1: INC L does not carry into H. -/
theorem test_incL_no_carry_into_h :
    let t := after { prog [0x2C] with hl := 0x12FF, af := 0x0100 }
    (t.hl, t.af) = (0x1200, 0x01A0) := by decide

/-- V1. -/
theorem test_incA_wraps : (after { prog [0x3C] with af := 0xFF00 }).af = 0x00A0 := by decide

/-- V2: B and F before; BC, AF and PC after. -/
def decB (b f : Byte) : Word × Word × Word :=
  let t := after { prog [0x05] with bc := word16 b 0x13, af := word16 0x01 f }
  (t.bc, t.af, t.pc)

theorem test_decB_wraps : decB 0x00 0x10 = (0xFF13, 0x0170, 0x0001) := by decide

theorem test_decB_half_borrow : decB 0x10 0x00 = (0x0F13, 0x0160, 0x0001) := by decide

/-- V2. -/
theorem test_decH_keeps_l :
    let t := after { prog [0x25] with hl := 0x0034, af := 0x0110 }
    (t.hl, t.af) = (0xFF34, 0x0170) := by decide

/-- V3: WRAM, read back by the mirror as well. -/
theorem test_incAtHl_workRam :
    let t := after (memWrite 0xC000 0x0F { prog [0x34] with hl := 0xC000, af := 0x0110 })
    (memRead 0xC000 t, memRead 0xE000 t, t.af, t.instrCycles) = (0x10, 0x10, 0x0130, 12) := by decide

/-- V3: the write to the cartridge is dropped and the flags are those of the byte read. -/
theorem test_incAtHl_cartridge :
    let t := after { prog [0x34, 0x41] with hl := 0x0001, af := 0x0100 }
    (memRead 0x0001 t, t.af) = (0x41, 0x0100) := by decide

/-- V4: A and B before, F = 0xF0; AF after. -/
def addAB (a b : Byte) : Word := (after { prog [0x80] with af := word16 a 0xF0, bc := word16 b 0x13 }).af

theorem test_addAB_rows_of_the_source : addAB 0x0F 0x01 = 0x1020 ∧ addAB 0xF0 0x11 = 0x0110 := by decide

theorem test_addAB_no_old_carry : addAB 0x00 0x00 = 0x0080 ∧ addAB 0xFF 0xFF = 0xFE30 := by decide

/-- V4. -/
theorem test_addAA_doubles : (after { prog [0x87] with af := 0x8000 }).af = 0x0090 := by decide

/-- V4: a stub reads 0xFF. -/
theorem test_addAAtHl_stub :
    let t := after { prog [0x86] with af := 0x0200, hl := 0xA000 }
    (t.af, t.instrCycles) = (0x0130, 8) := by decide

/-- V5: A and B before, F = 0; AF after. -/
def subB (a b : Byte) : Word := (after { prog [0x90] with af := word16 a 0x00, bc := word16 b 0x13 }).af

theorem test_subB_rows_of_the_source : subB 0x10 0x01 = 0x0F60 ∧ subB 0x10 0x20 = 0xF050 := by decide

theorem test_subB_nibbles_only : subB 0x0F 0xF0 = 0x1F50 ∧ subB 0x3E 0x40 = 0xFE50 := by decide

/-- V5. -/
theorem test_subA_zeroes : (after { prog [0x97] with af := 0x5A10 }).af = 0x00C0 := by decide

/-- V5. -/
theorem test_subAtHl_highRam :
    let t := after (memWrite 0xFF80 0x01 { prog [0x96] with af := 0x2000, hl := 0xFF80 })
    (t.af, t.instrCycles) = (0x1F60, 8) := by decide

/-- V6, S7. -/
theorem test_xorA : (after { prog [0xAF] with af := 0x5A70 }).af = 0x0080 := by decide

/-- V7. -/
theorem test_ldBcD16 :
    let t := after (prog [0x01, 0x34, 0x12])
    (t.bc, t.af, t.pc, t.instrCycles) = (0x1234, 0x01B0, 0x0003, 12) := by decide

/-- V7. -/
theorem test_ldSpD16 : (after (prog [0x31, 0xDE, 0xC0])).sp = 0xC0DE := by decide

/-- V7. -/
theorem test_ldED8 :
    let t := after (prog [0x1E, 0x7F])
    (t.de, t.af, t.pc, t.instrCycles) = (0x007F, 0x01B0, 0x0002, 8) := by decide

/-- V7: the store is seen at the mirror address. -/
theorem test_ldAtHlD8_workRam :
    let t := after { prog [0x36, 0x0F] with hl := 0xC000 }
    (memRead 0xC000 t, memRead 0xE000 t, t.pc, t.instrCycles) = (0x0F, 0x0F, 0x0002, 12) := by decide

/-- V7: a store to the cartridge is dropped. -/
theorem test_ldAtHlD8_cartridge :
    memRead 0x0000 (after { prog [0x36, 0x0F] with hl := 0x0000 }) = 0x36 := by decide

/-- V7. -/
theorem test_ldBA : (after { prog [0x47] with af := 0x12B0 }).bc = 0x1213 := by decide

/-- V7. -/
theorem test_ldHL : (after { prog [0x65] with hl := 0x1234 }).hl = 0x3434 := by decide

/-- V7: the address is the old HL. -/
theorem test_ldHAtHl :
    (after (memWrite 0xC002 0xD0 { prog [0x66] with hl := 0xC002 })).hl = 0xD002 := by decide

/-- V7. -/
theorem test_ldLAtHl :
    (after (memWrite 0xC002 0xD0 { prog [0x6E] with hl := 0xC002 })).hl = 0xC0D0 := by decide

/-- V7. -/
theorem test_ldAtHlH : memRead 0xC005 (after { prog [0x74] with hl := 0xC005 }) = 0xC0 := by decide

/-- V7. -/
theorem test_ldAtHlL : memRead 0xC005 (after { prog [0x75] with hl := 0xC005 }) = 0x05 := by decide

/-- V7. -/
theorem test_ldAAtDe :
    (after (memWrite 0xC010 0x77 { prog [0x1A] with de := 0xC010 })).af = 0x77B0 := by decide

/-- V7: through the last mirror address. -/
theorem test_ldAAtBc_last_mirror :
    (after (memWrite 0xDDFF 0x42 { prog [0x0A] with bc := 0xFDFF })).af = 0x42B0 := by decide

/-- V7: through the mirror. -/
theorem test_ldAtBcA_mirror :
    let t := after { prog [0x02] with bc := 0xE010, af := 0x10B0 }
    (memRead 0xC010 t, memRead 0xE010 t) = (0x10, 0x10) := by decide

/-- V7: the last HRAM byte. -/
theorem test_ldAtDeA_last_highRam :
    let t := after { prog [0x12] with de := 0xFFFE, af := 0x99B0 }
    (t.bus.hram, t.bus.ie) = ([(126, 0x99)], 0x00) := by decide

/-- V7. -/
theorem test_ldAAtA16 :
    let t := after (memWrite 0xC010 0x10 (prog [0xFA, 0x10, 0xC0]))
    (t.af, t.pc, t.instrCycles) = (0x10B0, 0x0003, 16) := by decide

/-- V7. -/
theorem test_ldAtA16A_highRam :
    let t := after { prog [0xEA, 0x80, 0xFF] with af := 0xF0B0 }
    (t.bus.hram, t.pc, t.instrCycles) = ([(0, 0xF0)], 0x0003, 16) := by decide

/-- V7: 0xFE00 is a stub and no mirror of 0xDE00. -/
theorem test_ldAtA16A_stub :
    let t := after { prog [0xEA, 0x00, 0xFE] with af := 0xF0B0 }
    (memRead 0xFE00 t, memRead 0xDE00 t) = (0xFF, 0x00) := by decide

/-- V8, M5: the mirror ends at 0xFDFF. -/
theorem test_bus_mirror_ends :
    let s := memWrite 0xDE00 0x12 (prog [])
    (memRead 0xFE00 s, memRead 0xDE00 s) = (0xFF, 0x12) := by decide

/-- V8, M13, M14: reset leaves IE and clears WRAM. -/
theorem test_bus_reset :
    let s := systemReset 0x0000 (memWrite 0xC000 0x12 (memWrite 0xFFFF 0xA5 (prog [])))
    (memRead 0xFFFF s, memRead 0xC000 s) = (0xA5, 0x00) := by decide

/-- V9. -/
theorem test_nop :
    let t := after (prog [0x00])
    (t.pc, t.af, t.totalCycles, t.diags) = (0x0001, 0x01B0, 4, []) := by decide

/-- V9, S9. -/
theorem test_jpA16 :
    let t := after (prog [0xC3, 0x34, 0x12])
    (t.pc, t.totalCycles) = (0x1234, 16) := by decide

/-- V9: the immediate wraps to 0x0000. -/
theorem test_jpA16_across_the_top :
    (after { prog [0x34, 0x12] with pc := 0xFFFF, bus := { wram := [], hram := [], ie := 0xC3, cart := some [0x34, 0x12] } }).pc
      = 0x1234 := by decide

/-- V9: HALT keeps PC; the report names it (60_exceptions.md rule R161). -/
theorem test_halt :
    let t := after (prog [0x76])
    (t.pc, t.totalCycles, t.report) = (0x0000, 4, some { opcode := 0x76, cycles := 4 }) := by decide

/-- V9: the second byte is consumed whatever it is. -/
theorem test_prefixCb :
    let t := after (prog [0xCB, 0xCB, 0x76])
    (t.pc, t.totalCycles, t.diags) = (0x0002, 4, [.invalidOpcodeCb 0x0000 0xCB]) := by decide

/-- V9: no DEC (HL) here. -/
theorem test_invalid35 :
    let t := after (memWrite 0xC000 0x05 { prog [0x35] with hl := 0xC000 })
    (t.pc, memRead 0xC000 t, t.af, t.diags) = (0x0001, 0x05, 0x01B0, [.invalidOpcode 0x0000 0x35]) := by decide

/-- V9: with no cartridge the first fetch is the fill byte, INVALID. -/
theorem test_reset_steps_through_fill :
    let t := after State.reset
    (t.pc, t.totalCycles, t.diags) = (0x0101, 4, [.invalidOpcode 0x0100 0xFF]) := by decide

/-- S13. -/
theorem test_reset_values :
    (State.reset.af, State.reset.bc, State.reset.de, State.reset.hl, State.reset.sp, State.reset.pc) =
      (0x01B0, 0x0013, 0x00D8, 0x014D, 0xFFFE, 0x0100) := by decide

/-- 60_exceptions.md rule R160: the trace of a three-byte instruction. -/
theorem test_trace :
    (after (prog [0x21, 0x00, 0xC0])).trace =
      { pc := 0, opcode := 0x21, operand := 0xC000, length := 3, bytes := [0x21, 0x00, 0xC0] } := by decide

/-- A placed word is the next step's instruction (log 25): the secondary table's row, and an immediate load. -/
theorem test_withFetchWord :
    fetchInstr (State.reset.withFetchWord 16 0xCB76) = .prefixCb 0x76 ∧
    fetchInstr (State.reset.withFetchWord 24 0x123401) = .ldBcD16 0x1234 := by decide

/-! ### Witnesses: each statement with hypotheses has a state and operands that meet them -/

/-- The reset state meets the invariant. -/
theorem test_reset_inv : State.reset.Inv :=
  ⟨by decide, by decide, by decide, by decide, by decide, by decide⟩

/-- A state with bytes in both RAM arrays meets it too. -/
def filled : State := memWrite 0xFFFE 0x34 (memWrite 0xC000 0x12 (prog [0x3E, 0xAA]))

theorem test_filled_inv : filled.Inv :=
  ⟨by decide, by decide, by decide, by decide, by decide, by decide⟩

/-- For the statements over a step: a step answers a next state. -/
theorem test_witness_step : ∃ t, filled.Inv ∧ step filled = .next t ∧ (readF filled).extractLsb' 0 4 = 0 :=
  ⟨_, test_filled_inv, rfl, by decide⟩

/-- The table of rule R86, and a table that withdraws INC B: there the byte's own instruction is INVALID. -/
theorem test_witness_DecodeOfEncodedInstruction :
    (Instr.nop).wellFormed = true ∧ (Instr.ldHlD16 0xFFFF).wellFormed = true ∧ (Instr.prefixCb 0xCB).wellFormed = true ∧
    (Instr.invalidWithdrawn 0x04).wellFormedIn [0x04] = true ∧ Instr.incB.wellFormedIn [0x04] = false ∧
    Instr.incC.wellFormedIn [0x04] = true := by decide

theorem test_witness_EncodeOfDecodedBytes :
    decodeIn [] [0x3E, 0xAA, 0x76] = .ok (.ldAD8 0xAA, [0x76]) ∧
    decodeIn [0x21] [0x21, 0x00, 0xC0] = .ok (.invalidWithdrawn 0x21, [0x00, 0xC0]) := by decide

/-- The clauses of `NarrowerTableWithdrawsOpcodes`: an assigned byte, one the source names, one of the 139, one kept. -/
theorem test_witness_NarrowerTableWithdrawsOpcodes :
    [0x04, 0x76, 0x03, 0x0C].map (isWithdrawn [0x04, 0x76, 0x03]) = [true, false, false, false] := by decide

/-- Both clauses of `OpcodeTellsLength` at their boundary: just enough bytes, and one too few. -/
theorem test_witness_OpcodeTellsLength :
    decoded [0x21, 0x00, 0xC0] = some (.ldHlD16 0xC000) ∧ decode [0x21, 0x00] = .error (.truncated 0x21) ∧
    decoded [0x36, 0x0F] = some (.ldAtHlD8 0x0F) ∧ decode [0x36] = .error (.truncated 0x36) := by decide

/-- The clauses of `CartridgeReadsByteOrFill`: no cartridge; the last byte of one; just beyond it; the last address. -/
theorem test_witness_CartridgeReadsByteOrFill :
    (State.reset.bus.cart = none ∧ memRead 0x7FFF State.reset = 0xFF) ∧
    ((prog [0x3E, 0xAA]).bus.cart = some [0x3E, 0xAA] ∧ memRead 0x0001 (prog [0x3E, 0xAA]) = 0xAA ∧
      memRead 0x0002 (prog [0x3E, 0xAA]) = 0xFF) := by decide

theorem test_witness_CartridgeWritesAreDropped : (0x7FFF : Word).toNat ≤ 0x7FFF ∧ (0x0000 : Word).toNat ≤ 0x7FFF := by
  decide

/-- V8, M7, at the ends of both ranges. -/
theorem test_witness_StubsReadFillAndIgnoreWrites :
    [0x8000, 0xBFFF, 0xFE00, 0xFF7F].map (fun a => memRead a (memWrite a 0x12 State.reset)) = [0xFF, 0xFF, 0xFF, 0xFF] := by
  decide

/-- The clauses of `WorkRamAndItsMirror` at the ends of their ranges. -/
theorem test_witness_WorkRamAndItsMirror :
    State.reset.Inv ∧ [0xC000, 0xDFFF, 0xE000, 0xFDFF].map (fun a => memRead a (memWrite a 0x34 State.reset)) =
      [0x34, 0x34, 0x34, 0x34] ∧ memRead 0xFDFF (memWrite 0xDDFF 0x34 State.reset) = 0x34 ∧
    [0xDE00, 0xDFFF].map (fun a => memRead (a + 0x2000) (memWrite a 0x34 State.reset)) = [0xFF, 0x00] :=
  ⟨test_reset_inv, by decide, by decide, by decide⟩

/-- V8, M8, M9: the ends of high RAM, and IE beside it. -/
theorem test_witness_HighRamAndInterruptEnable :
    State.reset.Inv ∧ [0xFF80, 0xFFFE, 0xFFFF].map (fun a => memRead a (memWrite a 0xA5 State.reset)) =
      [0xA5, 0xA5, 0xA5] ∧ memRead 0xFFFE (memWrite 0xFFFF 0xA5 State.reset) = 0x00 :=
  ⟨test_reset_inv, by decide, by decide⟩

/-- The clauses of `Stores` at the ends of their ranges: where a write lands, by which addresses, and where it does
not. -/
theorem test_witness_BusWriteChangesOneByte :
    State.reset.Inv ∧
    (Writable 0xC000 ∧ SameByte 0xC000 0xE000) ∧ (Writable 0xDDFF ∧ SameByte 0xDDFF 0xFDFF) ∧
    (Writable 0xFDFF ∧ SameByte 0xFDFF 0xDDFF) ∧ (Writable 0xDFFF ∧ SameByte 0xDFFF 0xDFFF) ∧ Writable 0xFF80 ∧
    Writable 0xFFFF ∧ ¬ Writable 0xBFFF ∧ ¬ Writable 0xFE00 ∧ ¬ Writable 0xFF7F ∧ ¬ SameByte 0xDFFF 0xFFFF := by
  refine ⟨test_reset_inv, ?_⟩
  unfold Writable SameByte
  decide

/-- The hypothesis of each statement about a form, at one constructor of it, and a state with the invariant. -/
theorem test_witness_shapes :
    Instr.incH.shape = .incR .h ∧ Instr.decA.shape = .decR .a ∧ Instr.addAA.shape = .addAR .a ∧
    Instr.subL.shape = .subR .l ∧ (Instr.ldSpD16 0xC0DE).shape = .ldRrD16 .sp 0xC0DE ∧
    (Instr.ldED8 0x7F).shape = .ldRD8 .e 0x7F ∧ Instr.ldHL.shape = .ldRR .h .l ∧ Instr.ldHAtHl.shape = .ldRAtHl .h ∧
    Instr.ldAtHlH.shape = .ldAtHlR .h ∧ Instr.ldAAtDe.shape = .ldAAtRr .de ∧ Instr.ldAtBcA.shape = .ldAtRrA .bc ∧
    (Instr.prefixCb 0xCB).shape = .prefixCb 0xCB ∧ (Instr.invalidCbCbop 0x11).shape = .invalidCb 0x11 ∧
    Instr.invalid03.shape = .invalid 0x03 ∧ Instr.invalid03 ≠ .invalidWithdrawn 0x03 ∧
    Instr.invalidFF.shape = .invalid 0xFF ∧ Instr.invalidFF ≠ .invalidWithdrawn 0xFF := by decide

/-- `StepRunsTheDecodedInstruction`: bytes at PC that decode, and an effect that is a next state. -/
theorem test_witness_StepRunsTheDecodedInstruction :
    decodeIn filled.withdrawn (bytesAt filled.pc filled) = .ok (.ldAD8 0xAA, [0xFF]) ∧ ∃ t, exec (.ldAD8 0xAA) filled = .next t :=
  ⟨by decide, _, rfl⟩

/-- `LaunchAndResetMeetInvariant`: the bound on `instr_len` at its end. -/
theorem test_witness_LaunchAndResetMeetInvariant : (⟨none, 0x0100, 0xFF, defaultCycles, [0x04], 3⟩ : Params).instrLenInit ≤ 3 := by
  decide

/-- The clauses of `LaunchStateHasTheResetValues` over addresses, at their ends. -/
theorem test_witness_LaunchStateHasTheResetValues :
    [0xC000, 0xFDFF, 0xFF80, 0xFFFE].map (fun a => memRead a (prog [])) = [0x00, 0x00, 0x00, 0x00] := by decide

/-- The clauses of `PcChangesInThreeWays` and `OnlyLoadSpWritesSp`: JP, HALT, LD SP,d16 and another. -/
theorem test_witness_PcChangesInThreeWays :
    [prog [0xC3, 0x34, 0x12], prog [0x76], prog [0x31, 0xDE, 0xC0], prog [0x00]].map
      (fun s => (fetchedOpcode s, (after s).pc, (after s).sp)) =
      [(0xC3, 0x1234, 0xFFFE), (0x76, 0x0000, 0xFFFE), (0x31, 0x0003, 0xC0DE), (0x00, 0x0001, 0xFFFE)] := by decide

/-- The clauses of `OnlyArithmeticWritesFlags`: an opcode outside the list, one of the INC and DEC opcodes. -/
theorem test_witness_OnlyArithmeticWritesFlags :
    runs aluOpcodes (prog [0x3E]) = false ∧ runs incDecOpcodes (prog [0x04]) = true ∧
    runs aluOpcodes { prog [0x04] with withdrawn := [0x04] } = false := by decide

/-- The clauses of `OnlyStoresChangeMemory`: no store, and a store by each addressing mode. -/
theorem test_witness_OnlyStoresChangeMemory :
    [prog [0x7E], prog [0x34], prog [0x02], prog [0x12], prog [0xEA, 0x80, 0xFF]].map storeAddress =
      [none, some 0x014D, some 0x0013, some 0x00D8, some 0xFF80] := by decide

/-- The hypotheses of `InterruptEnableByteIsInert`, at the largest PC they allow: one byte, just below IE. -/
theorem test_witness_InterruptEnableByteIsInert :
    let s := memWrite 0xFFFE 0x34 { prog [] with pc := 0xFFFE, hl := 0xC000 }
    s.pc.toNat + fetchedLength s ≤ 0xFFFF ∧ loadAddress s = some 0xC000 ∧ storeAddress s = some 0xC000 ∧ ∃ t, step s = .next t :=
  ⟨by decide, by decide, by decide, _, rfl⟩

theorem test_witness_NoRunChangesTheCartridge : ∃ t, core.run 2 (prog [0x3E, 0xAA, 0x76]) = .next t := ⟨_, rfl⟩

theorem test_witness_FinalStateIsAFixedPoint : (prog [0x76]).isFinal = true := by decide

/-- The clauses of `DiagnosticsExactlyOnInvalid`: INVALID at both ends of the list, the prefix, an assigned opcode. -/
theorem test_witness_DiagnosticsExactlyOnInvalid :
    [0x03, 0xFF, 0xCB, 0xC3].map (fun op => (isInvalidOpcode op, (after (prog [op, 0x11])).diags)) =
      [(true, [.invalidOpcode 0x0000 0x03]), (true, [.invalidOpcode 0x0000 0xFF]),
       (false, [.invalidOpcodeCb 0x0000 0x11]), (false, [])] := by decide

/-- LD (HL),A at 0xC000 that stores just behind itself: its own byte stays, the byte after it does not. -/
def storeBehind : State :=
  memWrite 0xC000 0x77 { prog [] with pc := 0xC000, hl := 0xC001, af := 0x11B0 }

/-- `TraceShowsTheExecutedInstruction`: an instruction that leaves its own bytes alone, of length 2, of length 3, and of
length 1 with a store to the next address. -/
theorem test_witness_TraceShowsTheExecutedInstruction :
    [prog [0x3E, 0xAA], prog [0x21, 0x00, 0xC0], storeBehind].map
      (fun s => (decide ((bytesAt s.pc (after s)).take (fetchedLength s) = (bytesAt s.pc s).take (fetchedLength s)),
        (after s).instrLen)) = [(true, 2), (true, 3), (true, 1)] ∧
    memRead 0xC001 (after storeBehind) = 0x11 := by decide

/-- U6: an INC (HL) that overwrites its own opcode byte leaves a trace that is free but for the address; the step has
executed the old byte and the next one fetches the new. -/
theorem test_overwritten_trace :
    let t := after (memWrite 0xC000 0x34 { prog [] with pc := 0xC000, hl := 0xC000 })
    t.trace = overwrittenTrace 0xC000 0 ∧ (t.pc, memRead 0xC000 t) = (0xC001, 0x35) := ⟨rfl, by decide⟩

/-- A withdrawn byte runs as INVALID of length 1 (30_encoding.md rules R89, R91; 42_control.md rule R146). -/
theorem test_invalidWithdrawn :
    let t := after { prog [0x21, 0x00, 0xC0] with withdrawn := [0x21] }
    (t.pc, t.hl, t.instrLen, t.diags) = (0x0001, 0x014D, 1, [.invalidOpcode 0x0000 0x21]) := by decide

/-- `PlacedWordIsFetched` where PC is kept up to the top of memory, and where a stub moves it. -/
theorem test_witness_PlacedWordIsFetched :
    [0xFFFE, 0x8000].map (fun p => (State.withFetchWord { State.reset with pc := p } 24 0xC03121).pc) = [0xFFFE, 0x0100] ∧
    bytesAt 0xFFFE (State.withFetchWord { State.reset with pc := 0xFFFE } 24 0xC03121) = [0x21, 0x31, 0xC0] ∧
    fetchInstr (State.withFetchWord { State.reset with withdrawn := [0x21, 0x04] } 24 0xC03121) = .ldHlD16 0xC031 := by
  decide

end Sys2Proof.Tests
end

/-! PROOFS, the state family (10_state.md). What an instruction writes, as data: one write to the register file, to memory
or to the diagnostics, and one write to the flags. `shapeEffect_eq` says that every effect is two such writes and the end
of the instruction; what a step keeps, and what it cannot depend on, then follows from the five kinds of data write and the
six kinds of flag write. -/

namespace Sys2Proof.Machine

/-- What an instruction writes, apart from the flags, PC and the two report fields. -/
inductive DataWrite where
  | nothing
  | diag (d : Diag)
  | reg (r : Reg8) (v : Byte)
  | pair (p : RegPair) (v : Word)
  | byte (addr : Word) (v : Byte)

/-- The state after a data write. -/
def DataWrite.run : DataWrite → State → State
  | .nothing, s => s
  | .diag d, s => emitDiag d s
  | .reg r v, s => writeReg r v s
  | .pair p v, s => writePair p v s
  | .byte addr v, s => memWrite addr v s

/-- The flag helper an instruction calls, with its operands (40_alu8.md rules R100 to R105). -/
inductive FlagWrite where
  | keep
  | inc (v : Byte)
  | dec (v : Byte)
  | add (a b : Byte)
  | sub (a b : Byte)
  | logic (res : Byte) (h : Bool)

/-- The state after a flag write. -/
def FlagWrite.run : FlagWrite → State → State
  | .keep, s => s
  | .inc v, s => increment8 v s
  | .dec v, s => decrement8 v s
  | .add a b, s => add8 a b s
  | .sub a b, s => subtract8 a b s
  | .logic res h, s => logic8 res h s

/-! ### The writes of each shape -/

/-- The data write of a shape, its operands read from the state before it (20_memory.md rule R69). -/
def dataWrite : Shape → State → DataWrite
  | .ldRrD16 p d16, _ => .pair p d16
  | .incR y, s => .reg y (readReg y s + 1)
  | .decR y, s => .reg y (readReg y s - 1)
  | .incAtHl, s => .byte (effAddr .atHl s) (readAt .atHl s + 1)
  | .ldRD8 y d8, _ => .reg y d8
  | .ldAtHlD8 d8, s => .byte (effAddr .atHl s) d8
  | .addAR z, s => .reg .a (readReg .a s + readReg z s)
  | .addAAtHl, s => .reg .a (readReg .a s + readAt .atHl s)
  | .subR z, s => .reg .a (readReg .a s - readReg z s)
  | .subAtHl, s => .reg .a (readReg .a s - readAt .atHl s)
  | .xorA, s => .reg .a (readReg .a s ^^^ readReg .a s)
  | .ldRR y z, s => .reg y (readReg z s)
  | .ldRAtHl y, s => .reg y (readAt .atHl s)
  | .ldAtHlR z, s => .byte (effAddr .atHl s) (readReg z s)
  | .ldAAtRr .bc, s => .reg .a (readAt .atBc s)
  | .ldAAtRr _, s => .reg .a (readAt .atDe s)
  | .ldAtRrA .bc, s => .byte (effAddr .atBc s) (readReg .a s)
  | .ldAtRrA _, s => .byte (effAddr .atDe s) (readReg .a s)
  | .ldAAtA16 a16, s => .reg .a (readAt (.absolute a16) s)
  | .ldAtA16A a16, s => .byte (effAddr (.absolute a16) s) (readReg .a s)
  | .prefixCb cbop, s => .diag (.invalidOpcodeCb s.pc cbop)
  | .invalidCb cbop, s => .diag (.invalidOpcodeCb s.pc cbop)
  | .invalid op, s => .diag (.invalidOpcode s.pc op)
  | .nop, _ => .nothing
  | .jpA16 _, _ => .nothing
  | .halt, _ => .nothing

/-- The flag write of a shape (40_alu8.md rules R106 to R113). -/
def flagWrite : Shape → State → FlagWrite
  | .incR y, s => .inc (readReg y s)
  | .decR y, s => .dec (readReg y s)
  | .incAtHl, s => .inc (readAt .atHl s)
  | .addAR z, s => .add (readReg .a s) (readReg z s)
  | .addAAtHl, s => .add (readReg .a s) (readAt .atHl s)
  | .subR z, s => .sub (readReg .a s) (readReg z s)
  | .subAtHl, s => .sub (readReg .a s) (readAt .atHl s)
  | .xorA, s => .logic (readReg .a s ^^^ readReg .a s) false
  | _, _ => .keep

/-- PC after the instruction (42_control.md rule R147). -/
def nextPc : Shape → State → Word
  | .jpA16 a16, _ => a16
  | .halt, s => s.pc
  | sh, s => s.pc + BitVec.ofNat 16 sh.length

/-- The cost column of 70_reset_and_hazards.md rule R180. -/
def cost : Shape → Config.CycleTable → Nat
  | .nop, c => c.nop
  | .ldRrD16 _ _, c => c.ldRrD16
  | .incR _, c => c.incR
  | .decR _, c => c.decR
  | .incAtHl, c => c.incAtHl
  | .ldRD8 _ _, c => c.ldRD8
  | .ldAtHlD8 _, c => c.ldAtHlD8
  | .addAR _, c => c.addAR
  | .addAAtHl, c => c.addAAtHl
  | .subR _, c => c.subR
  | .subAtHl, c => c.subAtHl
  | .xorA, c => c.xorA
  | .halt, c => c.halt
  | .ldRR _ _, c => c.ldRR
  | .ldRAtHl _, c => c.ldRAtHl
  | .ldAtHlR _, c => c.ldAtHlR
  | .ldAAtRr _, c => c.ldAAtRr
  | .ldAtRrA _, c => c.ldAtRrA
  | .ldAAtA16 _, c => c.ldAAtA16
  | .ldAtA16A _, c => c.ldAtA16A
  | .jpA16 _, _ => jpCycles
  | .prefixCb _, _ => invalidCycles
  | .invalid _, _ => invalidCycles
  | .invalidCb _, _ => invalidCycles

/-- Every effect is a data write, a flag write and the end of the instruction. -/
theorem shapeEffect_eq (sh : Shape) (s : State) :
    shapeEffect sh s =
      finish (nextPc sh s) sh.length (cost sh s.cycles) ((flagWrite sh s).run ((dataWrite sh s).run s)) := by
  cases sh with
  | incR y => cases y <;> rfl
  | decR y => cases y <;> rfl
  | ldRD8 y d8 => cases y <;> rfl
  | ldRR y z => cases y <;> rfl
  | ldRAtHl y => cases y <;> rfl
  | ldRrD16 p d16 => cases p <;> rfl
  | ldAAtRr p => cases p <;> rfl
  | ldAtRrA p => cases p <;> rfl
  | _ => rfl

end Sys2Proof.Machine

/-! PROOFS, the state family: what the writes, an effect and a step keep, which instruction a step fetches, and what two
states that agree on the operands have in common. -/

namespace Sys2Proof.Machine

open Sys2Proof.Claim

/-- The next state of a step, as one equation. -/
theorem step_next {s t : State} (h : step s = .next t) :
    t = endStep s.pc (fetchedOpcode s) (ownBytes s) (shapeEffect (fetchInstr s).shape s) := by
  rw [step_eq] at h
  exact (Host.Outcome.next.inj h).symm

/-! ### What a data write keeps -/

namespace DataWrite

variable (d : DataWrite) (s : State)

@[simp] theorem run_cycles : (d.run s).cycles = s.cycles := by cases d <;> simp [run]

@[simp] theorem run_withdrawn : (d.run s).withdrawn = s.withdrawn := by cases d <;> simp [run]

/-- No data write touches F. -/
@[simp] theorem readF_run : readF (d.run s) = readF s := by cases d <;> simp [run]

@[simp] theorem flagC_run : flagC (d.run s) = flagC s := by simp [flagC]

/-- The memory bus changes by one bus write or not at all. -/
theorem run_bus : (d.run s).bus = s.bus ∨ ∃ a v, (d.run s).bus = s.bus.write a v := by
  cases d with
  | byte a v => exact .inr ⟨a, v, rfl⟩
  | _ => exact .inl (by simp [run])

@[simp] theorem run_cart : (d.run s).bus.cart = s.bus.cart := by
  obtain h | ⟨a, v, h⟩ := d.run_bus s <;> simp [h]

/-- The word a data write gives SP, if it writes SP. -/
def spWord : DataWrite → Option Word
  | .pair .sp v => some v
  | _ => none

theorem run_sp : (d.run s).sp = d.spWord.getD s.sp := by
  cases d with
  | pair p v => cases p <;> rfl
  | _ => simp [run, spWord]

end DataWrite

/-! ### What a flag write keeps -/

namespace FlagWrite

/-- Does it write a flag? -/
def writes : FlagWrite → Bool
  | .keep => false
  | _ => true

/-- Is it the helper of INC or DEC, which leaves C? -/
def isIncDec : FlagWrite → Bool
  | .inc _ => true
  | .dec _ => true
  | _ => false

variable (w : FlagWrite) (s : State)

@[simp] theorem run_sp : (w.run s).sp = s.sp := by cases w <;> rfl

@[simp] theorem run_bus : (w.run s).bus = s.bus := by cases w <;> rfl

@[simp] theorem run_cycles : (w.run s).cycles = s.cycles := by cases w <;> rfl

@[simp] theorem run_withdrawn : (w.run s).withdrawn = s.withdrawn := by cases w <;> rfl

theorem run_of_writes_eq_false (hw : w.writes = false) : w.run s = s := by
  cases w with
  | keep => rfl
  | _ => cases hw

/-- No flag write touches F[3:0] (10_state.md rule R22). -/
@[simp] theorem run_low : (readF (w.run s)).extractLsb' 0 4 = (readF s).extractLsb' 0 4 := by
  cases w with
  | keep => rfl
  | _ => exact setZNHC_low _ _ _ _ _

/-- INC and DEC leave C (10_state.md rule R23). -/
theorem flagC_run_of_isIncDec (hw : w.isIncDec = true) : flagC (w.run s) = flagC s := by
  cases w with
  | inc v =>
    obtain ⟨-, -, -, hc⟩ := increment8_flags v s
    exact hc
  | dec v =>
    obtain ⟨-, -, -, hc⟩ := decrement8_flags v s
    exact hc
  | _ => cases hw

end FlagWrite

/-! ### What an effect keeps -/

section
variable (sh : Shape) (s : State)

theorem shapeEffect_sp : (shapeEffect sh s).sp = (dataWrite sh s).spWord.getD s.sp := by
  simp [shapeEffect_eq, DataWrite.run_sp]

theorem shapeEffect_bus :
    (shapeEffect sh s).bus = s.bus ∨ ∃ a v, (shapeEffect sh s).bus = s.bus.write a v := by
  simpa [shapeEffect_eq] using (dataWrite sh s).run_bus s

@[simp] theorem shapeEffect_cart : (shapeEffect sh s).bus.cart = s.bus.cart := by simp [shapeEffect_eq]

@[simp] theorem shapeEffect_cycles : (shapeEffect sh s).cycles = s.cycles := by simp [shapeEffect_eq]

@[simp] theorem shapeEffect_withdrawn : (shapeEffect sh s).withdrawn = s.withdrawn := by simp [shapeEffect_eq]

@[simp] theorem shapeEffect_instrLen : (shapeEffect sh s).instrLen = sh.length := by simp [shapeEffect_eq]

theorem shapeEffect_readF :
    readF (shapeEffect sh s) = readF ((flagWrite sh s).run ((dataWrite sh s).run s)) := by
  simp [shapeEffect_eq]

theorem shapeEffect_low :
    (readF (shapeEffect sh s)).extractLsb' 0 4 = (readF s).extractLsb' 0 4 := by
  simp [shapeEffect_readF]

end

/-! ### The fetched instruction -/

/-- The fetched instruction is the main table's entry, or INVALID where the decode table withdraws the byte. -/
theorem fetchInstr_cases (s : State) :
    (isWithdrawn s.withdrawn (fetchedOpcode s) = true ∧ fetchInstr s = .invalidWithdrawn (fetchedOpcode s)) ∨
    (isWithdrawn s.withdrawn (fetchedOpcode s) = false ∧
      fetchInstr s = decodeMain (fetchedOpcode s) (memRead (s.pc + 1) s) (memRead (s.pc + 2) s)) := by
  cases h : isWithdrawn s.withdrawn (fetchedOpcode s) with
  | true => exact .inl ⟨rfl, entryIn_withdrawn _ _ _ _ h⟩
  | false => exact .inr ⟨rfl, entryIn_kept _ _ _ _ h⟩

theorem length_fetchInstr_le (s : State) : (fetchInstr s).shape.length ≤ 3 := by
  rw [fetchInstr, length_entryIn]
  have := lengthIn_cases s.withdrawn (memRead s.pc s)
  omega

/-- A property of instructions that the main table gives to the opcodes of a list, and that no withdrawn byte has, is the
property of running one of those opcodes. -/
theorem runs_eq (ops : List Byte) (P : Instr → Bool)
    (hmain : ∀ op b₁ b₂, P (decodeMain op b₁ b₂) = ops.contains op) (hw : ∀ op, P (.invalidWithdrawn op) = false)
    (s : State) : runs ops s = P (fetchInstr s) := by
  obtain ⟨h, hi⟩ | ⟨h, hi⟩ := fetchInstr_cases s
  · simp [runs, h, hi, hw]
  · simp [runs, h, hi, hmain]

theorem writes_decodeMain (op b₁ b₂ : Byte) (s : State) :
    (flagWrite (decodeMain op b₁ b₂).shape s).writes = aluOpcodes.contains op := by
  revert op
  refine byte_cases fun n hn => ?_
  interval_cases n <;> rfl

theorem isIncDec_decodeMain (op b₁ b₂ : Byte) (s : State) :
    (flagWrite (decodeMain op b₁ b₂).shape s).isIncDec = incDecOpcodes.contains op := by
  revert op
  refine byte_cases fun n hn => ?_
  interval_cases n <;> rfl

theorem spWord_decodeMain (op b₁ b₂ : Byte) (s : State) :
    (dataWrite (decodeMain op b₁ b₂).shape s).spWord = if [0x31#8].contains op then some (word16 b₂ b₁) else none := by
  revert op
  refine byte_cases fun n hn => ?_
  interval_cases n <;> rfl

theorem runs_aluOpcodes (s : State) : runs aluOpcodes s = (flagWrite (fetchInstr s).shape s).writes :=
  runs_eq aluOpcodes (fun i => (flagWrite i.shape s).writes) (fun op b₁ b₂ => writes_decodeMain op b₁ b₂ s)
    (fun _ => rfl) s

theorem runs_incDecOpcodes (s : State) : runs incDecOpcodes s = (flagWrite (fetchInstr s).shape s).isIncDec :=
  runs_eq incDecOpcodes (fun i => (flagWrite i.shape s).isIncDec) (fun op b₁ b₂ => isIncDec_decodeMain op b₁ b₂ s)
    (fun _ => rfl) s

/-- The fetched instruction writes SP exactly where it is LD SP,d16, and then its immediate (10_state.md rule R26). -/
theorem spWord_fetchInstr (s : State) :
    (dataWrite (fetchInstr s).shape s).spWord = if runs [0x31] s then some (immediate16 s) else none := by
  obtain ⟨h, hi⟩ | ⟨h, hi⟩ := fetchInstr_cases s
  · simp only [runs, h, hi, Bool.not_true, Bool.and_false]
    rfl
  · simp [runs, h, hi, spWord_decodeMain, immediate16]

/-! ### What an effect is computed from -/

/-- Agreement on all that the writes of an instruction are computed from: no SP and no F. -/
structure SameOperands (s s' : State) : Prop where
  reg : ∀ r, readReg r s' = readReg r s
  pc : s'.pc = s.pc
  bus : s'.bus = s.bus
  cycles : s'.cycles = s.cycles

namespace SameOperands

variable {s s' : State} (h : SameOperands s s')
include h

theorem effAddr_eq (m : AddrMode) : effAddr m s' = effAddr m s := by
  cases m with
  | atHl => exact word_ext_halves _ _ (h.reg .h) (h.reg .l)
  | atBc => exact word_ext_halves _ _ (h.reg .b) (h.reg .c)
  | atDe => exact word_ext_halves _ _ (h.reg .d) (h.reg .e)
  | absolute a16 => rfl

theorem readAt_eq (m : AddrMode) : readAt m s' = readAt m s := by
  simp only [readAt, memRead, h.effAddr_eq, h.bus]

theorem dataWrite_eq (sh : Shape) : dataWrite sh s' = dataWrite sh s := by
  cases sh with
  | ldAAtRr p => cases p <;> simp only [dataWrite, h.readAt_eq]
  | ldAtRrA p => cases p <;> simp only [dataWrite, h.reg, h.effAddr_eq]
  | _ => simp only [dataWrite, h.reg, h.effAddr_eq, h.readAt_eq, h.pc]

theorem flagWrite_eq (sh : Shape) : flagWrite sh s' = flagWrite sh s := by
  cases sh <;> simp only [flagWrite, h.reg, h.readAt_eq]

theorem nextPc_eq (sh : Shape) : nextPc sh s' = nextPc sh s := by
  cases sh with
  | jpA16 a16 => rfl
  | halt => exact h.pc
  | _ => exact congrArg (· + _) h.pc

/-- The writes computed from `s` are those that run on `s'`. -/
theorem shapeEffect_eq (sh : Shape) :
    shapeEffect sh s' = finish (nextPc sh s) sh.length (cost sh s.cycles)
      ((flagWrite sh s).run ((dataWrite sh s).run s')) := by
  rw [Machine.shapeEffect_eq, h.dataWrite_eq, h.flagWrite_eq, h.nextPc_eq, h.cycles]

end SameOperands

/-! ### Two states that differ in SP alone -/

/-- The state with another SP. -/
def withSp (v : Word) (s : State) : State := { s with sp := v }

theorem sameOperands_withSp (v : Word) (s : State) : SameOperands s (withSp v s) where
  reg r := by cases r <;> rfl
  pc := rfl
  bus := rfl
  cycles := rfl

theorem DataWrite.run_withSp (d : DataWrite) (v : Word) (s : State) :
    d.run (withSp v s) = withSp (d.spWord.getD v) (d.run s) := by
  cases d with
  | reg r b => cases r <;> rfl
  | pair p w => cases p <;> rfl
  | _ => rfl

theorem FlagWrite.run_withSp (w : FlagWrite) (v : Word) (s : State) : w.run (withSp v s) = withSp v (w.run s) := by
  cases w <;> rfl

theorem shapeEffect_withSp (sh : Shape) (v : Word) (s : State) :
    shapeEffect sh (withSp v s) = withSp ((dataWrite sh s).spWord.getD v) (shapeEffect sh s) := by
  rw [(sameOperands_withSp v s).shapeEffect_eq, shapeEffect_eq, DataWrite.run_withSp, FlagWrite.run_withSp]
  rfl

/-! ### Two states that differ in F alone -/

theorem setLo_setLo (w : Word) (f g : Byte) : setLo (setLo w f) g = setLo w g :=
  word_ext_halves _ _ (by simp) (by simp)

theorem setHi_setLo (w : Word) (v f : Byte) : setHi (setLo w f) v = setLo (setHi w v) f :=
  word_ext_halves _ _ (by simp) (by simp)

theorem sameOperands_withF (f : Byte) (s : State) : SameOperands s (withF f s) where
  reg r := by cases r <;> simp [readReg, withF]
  pc := rfl
  bus := rfl
  cycles := rfl

theorem DataWrite.run_withF (d : DataWrite) (f : Byte) (s : State) : d.run (withF f s) = withF f (d.run s) := by
  cases d with
  | reg r v =>
    cases r with
    | a => simp [run, writeReg, withF, setHi_setLo]
    | _ => rfl
  | pair p v => cases p <;> rfl
  | _ => rfl

/-- The bits of F that a flag write leaves are the old `f`, the others those of the new byte `g`. -/
def FlagWrite.carry (f g : Byte) : FlagWrite → Byte
  | .keep => f
  | .inc _ => g.extractLsb' 5 3 ++ f.extractLsb' 0 5
  | .dec _ => g.extractLsb' 5 3 ++ f.extractLsb' 0 5
  | _ => g.extractLsb' 4 4 ++ f.extractLsb' 0 4

theorem flagByte_carry (z n h c : Bool) (f g : Byte) :
    flagByte z n h c f = (flagByte z n h c g).extractLsb' 4 4 ++ f.extractLsb' 0 4 := by
  rw [flagByte, flagByte, BitVec.extractLsb'_append_eq_left]

theorem flagByte_carry_c (z n h c : Bool) (f g : Byte) :
    flagByte z n h (f.getLsbD 4) f = (flagByte z n h c g).extractLsb' 5 3 ++ f.extractLsb' 0 5 := by
  apply BitVec.eq_of_getLsbD_eq
  intro i hi
  simp only [flagByte, BitVec.getLsbD_append, BitVec.getLsbD_extractLsb', BitVec.getLsbD_ofBool]
  interval_cases i <;> simp

theorem setZNHC_withF (z n h c : Bool) (f : Byte) (s : State) :
    setZNHC z n h c (withF f s) =
      withF ((readF (setZNHC z n h c s)).extractLsb' 4 4 ++ f.extractLsb' 0 4) (setZNHC z n h c s) := by
  rw [readF_setZNHC, ← flagByte_carry]
  simp [setZNHC, withF, setLo_setLo, readF]

theorem setZNH_withF (z n h : Bool) (f : Byte) (s : State) :
    setZNH z n h (withF f s) =
      withF ((readF (setZNH z n h s)).extractLsb' 5 3 ++ f.extractLsb' 0 5) (setZNH z n h s) := by
  rw [setZNH, setZNH, readF_setZNHC, ← flagByte_carry_c]
  simp [setZNHC, withF, setLo_setLo, flagC, readF]

theorem FlagWrite.run_withF (w : FlagWrite) (f : Byte) (s : State) :
    w.run (withF f s) = withF (w.carry f (readF (w.run s))) (w.run s) := by
  cases w with
  | keep => rfl
  | inc v => exact setZNH_withF _ _ _ f s
  | dec v => exact setZNH_withF _ _ _ f s
  | _ => exact setZNHC_withF _ _ _ _ f s

theorem shapeEffect_withF (sh : Shape) (f : Byte) (s : State) :
    shapeEffect sh (withF f s) =
      withF ((flagWrite sh s).carry f (readF (shapeEffect sh s))) (shapeEffect sh s) := by
  rw [(sameOperands_withF f s).shapeEffect_eq, shapeEffect_readF, shapeEffect_eq, DataWrite.run_withF,
    FlagWrite.run_withF]
  rfl

theorem carriedF_eq (f : Byte) (s t : State) :
    carriedF f s t = (flagWrite (fetchInstr s).shape s).carry f (readF t) := by
  rw [carriedF, runs_incDecOpcodes, runs_aluOpcodes]
  cases flagWrite (fetchInstr s).shape s <;> rfl

/-! ### Runs -/

theorem step_keeps_parameters {s t : State} (h : step s = .next t) :
    t.bus.cart = s.bus.cart ∧ t.withdrawn = s.withdrawn ∧ t.cycles = s.cycles := by
  simp [step_next h]

/-- What holds of a state and is kept by every step holds after a run of any length. -/
theorem run_invariant (M : Host.Core) (P : M.State → Prop) (hstep : ∀ s t, P s → M.step s = .next t → P t) (n : Nat)
    (s t : M.State) (hs : P s) (h : M.run n s = .next t) : P t := by
  induction n generalizing s with
  | zero =>
    cases h
    exact hs
  | succ n ih =>
    rw [Host.Core.run] at h
    split at h
    next u hu => exact ih u (hstep s u hs hu) h
    next => cases h
    next => cases h

/-! ### The launch state -/

/-- Both RAM arrays read 0x00 at launch, WRAM through its mirror too. -/
theorem memRead_launch_ram (p : Params) (a : Word)
    (ha : (0xC000 ≤ a.toNat ∧ a.toNat ≤ 0xFDFF) ∨ (0xFF80 ≤ a.toNat ∧ a.toNat ≤ 0xFFFE)) :
    memRead a (State.launch p) = 0x00 := by
  have hram : (∃ i, handlerOf a = .workRam i) ∨ (∃ i, handlerOf a = .highRam i) := by
    obtain ⟨h, h'⟩ | ⟨h, h'⟩ := ha
    · by_cases hd : a.toNat ≤ 0xDFFF
      · exact .inl ⟨_, handlerOf_workRam a h hd⟩
      · exact .inl ⟨_, handlerOf_mirror a (by omega) h'⟩
    · exact .inr ⟨_, handlerOf_highRam a h h'⟩
  obtain ⟨i, hi⟩ | ⟨i, hi⟩ := hram <;> rw [memRead, Bus.read, hi] <;> rfl

theorem readF_launch (p : Params) : readF (State.launch p) = 0xB0 :=
  show loByte 0x01B0 = 0xB0 by decide

theorem readReg_launch (p : Params) :
    readReg .a (State.launch p) = 0x01 ∧ readReg .b (State.launch p) = 0x00 ∧ readReg .c (State.launch p) = 0x13 ∧
    readReg .d (State.launch p) = 0x00 ∧ readReg .e (State.launch p) = 0xD8 ∧ readReg .h (State.launch p) = 0x01 ∧
    readReg .l (State.launch p) = 0x4D := by
  simp only [readReg, State.launch]
  decide

theorem launch_inv (p : Params) (h : p.instrLenInit ≤ 3) : (State.launch p).Inv where
  flagLow := by rw [readF_launch]; decide
  wramWf := rfl
  wramWithin := rfl
  hramWf := rfl
  hramWithin := rfl
  instrLenLe := h

end Sys2Proof.Machine

/-! PROOFS, the state family: the obligations settled. -/

namespace Sys2Proof.Machine

open Sys2Proof.Claim

/-- Settles O42: F[3:0] and `instr_len` by what the shape's effect writes, the RAM arrays because the bus changes by one
bus write at most. -/
theorem everyStepKeepsInvariant : Obligations.EveryStepKeepsInvariant := by
  intro s t hs h
  obtain ⟨hlow, hw, hw', hh, hh', -⟩ := hs
  have hbus : t.bus = s.bus ∨ ∃ a v, t.bus = s.bus.write a v := by
    rw [step_next h]
    exact shapeEffect_bus _ s
  have hram : t.bus.wram.wf = true ∧ t.bus.wram.within Config.wramSize = true ∧
      t.bus.hram.wf = true ∧ t.bus.hram.within Config.hramSize = true := by
    obtain hb | ⟨a, v, hb⟩ := hbus <;> rw [hb]
    · exact ⟨hw, hw', hh, hh'⟩
    · exact s.bus.write_wf a v hw hw' hh hh'
  obtain ⟨hw, hw', hh, hh'⟩ := hram
  refine ⟨?_, hw, hw', hh, hh', ?_⟩
  · rw [step_next h, readF_endStep, shapeEffect_low, hlow]
  · rw [step_next h, endStep_instrLen, shapeEffect_instrLen]
    exact length_fetchInstr_le s

/-- Settles O48: no write of the fetched instruction is computed from SP. -/
theorem noInstructionReadsSp : Obligations.NoInstructionReadsSp := by
  intro s t v h
  have hsp : (if runs [0x31] s then t.sp else v) = (dataWrite (fetchInstr s).shape s).spWord.getD v := by
    rw [step_next h, endStep_sp, shapeEffect_sp, spWord_fetchInstr]
    cases runs [0x31] s <;> rfl
  rw [hsp, step_next h]
  change step (withSp v s) = _
  rw [step_eq, show fetchInstr (withSp v s) = fetchInstr s from rfl, shapeEffect_withSp]
  rfl

/-- Settles O50: no write of the fetched instruction is computed from a flag, so the new F keeps of `f` what the flag
write leaves. -/
theorem noInstructionReadsAFlag : Obligations.NoInstructionReadsAFlag := by
  intro s t f h
  rw [carriedF_eq, step_next h, readF_endStep, step_eq, show fetchInstr (withF f s) = fetchInstr s from rfl,
    shapeEffect_withF]
  rfl

/-- Settles O53, by induction on the number of steps. -/
theorem noRunChangesTheCartridge : Obligations.NoRunChangesTheCartridge := by
  intro n s t h
  refine run_invariant core (fun u => u.bus.cart = s.bus.cart ∧ u.withdrawn = s.withdrawn ∧ u.cycles = s.cycles)
    (fun u u' ⟨hcart, hwithdrawn, hcycles⟩ hstep => ?_) n s t ⟨rfl, rfl, rfl⟩ h
  obtain ⟨hcart', hwithdrawn', hcycles'⟩ := step_keeps_parameters hstep
  exact ⟨hcart'.trans hcart, hwithdrawn'.trans hwithdrawn, hcycles'.trans hcycles⟩

/-- Settles O14: a word is its two halves, and a write to a half is that concatenation by definition. -/
theorem halvesAndPairsAreOneStorage : Obligations.HalvesAndPairsAreOneStorage := by
  refine ⟨fun s => ?_, fun s v => ⟨rfl, rfl, rfl, rfl, rfl, rfl, rfl⟩⟩
  exact ⟨(word_eq_halves _).symm, (word_eq_halves _).symm, (word_eq_halves _).symm, (word_eq_halves _).symm⟩

/-- Settles O15: no effect touches F[3:0]. -/
theorem flagByteLowNibbleIsZero : Obligations.FlagByteLowNibbleIsZero := by
  refine ⟨fun v s => by simp [readF, writeF], fun s t hs h => ?_⟩
  rw [step_next h, readF_endStep, shapeEffect_low, hs]

/-- Settles O47: the fetched instruction's data write gives SP a word exactly where it is LD SP,d16. -/
theorem onlyLoadSpWritesSp : Obligations.OnlyLoadSpWritesSp := by
  intro s t h
  rw [step_next h, endStep_sp, shapeEffect_sp, spWord_fetchInstr]
  cases runs [0x31] s <;> rfl

/-- Settles O49: the opcode lists are those of the instructions whose flag write is some helper, and the helper of INC or
DEC. -/
theorem onlyArithmeticWritesFlags : Obligations.OnlyArithmeticWritesFlags := by
  intro s t h
  rw [runs_aluOpcodes, runs_incDecOpcodes, step_next h]
  simp only [flagC_endStep, readF_endStep]
  refine ⟨fun hw => ?_, fun hw => ?_, shapeEffect_low _ s⟩
  · rw [shapeEffect_readF, FlagWrite.run_of_writes_eq_false _ _ hw, DataWrite.readF_run]
  · rw [shapeEffect_eq, flagC_finish, FlagWrite.flagC_run_of_isIncDec _ _ hw, DataWrite.flagC_run]

/-- Settles O43: a reset gives a launch state but for `freeCount`, and its `instr_len` is within the bound. -/
theorem launchAndResetMeetInvariant : Obligations.LaunchAndResetMeetInvariant := by
  refine ⟨launch_inv, fun pcInit s => ?_, launch_inv _ (Nat.zero_le 3)⟩
  have hlen := Nat.le_of_lt_succ (Config.unspecifiedInstrLen s.freeCount).isLt
  exact { launch_inv _ hlen with }

/-- Settles O44: the registers by evaluation, the RAM by its empty lists. -/
theorem launchStateHasTheResetValues : Obligations.LaunchStateHasTheResetValues := by
  intro p
  obtain ⟨ha, hb, hc, hd, he, hh, hl⟩ := readReg_launch p
  refine ⟨ha, readF_launch p, hb, hc, hd, he, hh, hl, rfl, rfl, rfl, rfl, rfl, fun a h h' => ?_, fun a h h' => ?_, rfl,
    rfl, rfl, rfl⟩
  · exact memRead_launch_ram p a (.inl ⟨h, h'⟩)
  · exact memRead_launch_ram p a (.inr ⟨h, h'⟩)

end Sys2Proof.Machine

/-! PROOFS, the memory family (20_memory.md): which addresses share a byte of storage, and what a bus write does to the
read of every address. -/

namespace Sys2Proof.Machine

open Sys2Proof.Claim

/-! ### The addresses of each byte of storage -/

/-- A byte of WRAM has its direct address and, below index 0x1E00, its mirror address; a byte of HRAM and IE have one
(20_memory.md rules R55, R56, R59, R60). -/
theorem handlerOf_storage_iff (a : Word) :
    (∀ i, handlerOf a = .workRam i ↔
      (i < 0x2000 ∧ a.toNat = 0xC000 + i) ∨ (i < 0x1E00 ∧ a.toNat = 0xE000 + i)) ∧
    (∀ i, handlerOf a = .highRam i ↔ i < 0x7F ∧ a.toNat = 0xFF80 + i) ∧
    (handlerOf a = .interruptEnable ↔ a.toNat = 0xFFFF) := by
  rcases handlerOf_rows a with ⟨_, h⟩ | ⟨_, _, h⟩ | ⟨_, _, h⟩ | ⟨_, _, h⟩ | ⟨_, _, h⟩ | ⟨_, _, h⟩ | ⟨_, _, h⟩ |
    ⟨_, _, h⟩ | ⟨_, _, h⟩ | ⟨_, h⟩ <;>
    simp only [h, Handler.workRam.injEq, Handler.highRam.injEq, reduceCtorEq, false_iff, true_iff] <;>
    refine ⟨fun i => ?_, fun i => ?_, ?_⟩ <;> omega

/-- Writes land exactly at the addresses that WRAM, HRAM and IE serve (20_memory.md rule R51). -/
theorem writable_iff (a : Word) :
    Writable a ↔ (∃ i, handlerOf a = .workRam i) ∨ (∃ i, handlerOf a = .highRam i) ∨ handlerOf a = .interruptEnable := by
  unfold Writable
  constructor
  · intro h
    have hlt := a.isLt
    have hrow : (0xC000 ≤ a.toNat ∧ a.toNat ≤ 0xDFFF) ∨ (0xE000 ≤ a.toNat ∧ a.toNat ≤ 0xFDFF) ∨
      (0xFF80 ≤ a.toNat ∧ a.toNat ≤ 0xFFFE) ∨ a.toNat = 0xFFFF := by omega
    obtain ⟨h₁, h₂⟩ | ⟨h₁, h₂⟩ | ⟨h₁, h₂⟩ | h₁ := hrow
    · exact .inl ⟨_, handlerOf_workRam a h₁ h₂⟩
    · exact .inl ⟨_, handlerOf_mirror a h₁ h₂⟩
    · exact .inr (.inl ⟨_, handlerOf_highRam a h₁ h₂⟩)
    · exact .inr (.inr (handlerOf_interruptEnable a h₁))
  · obtain ⟨hw, hh, hi⟩ := handlerOf_storage_iff a
    rintro (⟨i, h⟩ | ⟨i, h⟩ | h)
    · have := (hw i).mp h
      omega
    · have := (hh i).mp h
      omega
    · have := hi.mp h
      omega

/-- Where writes land, the addresses of one byte are those with the same handler and index. -/
theorem handlerOf_eq_iff_sameByte {a : Word} (b : Word) (ha : Writable a) : handlerOf b = handlerOf a ↔ SameByte a b := by
  obtain ⟨haw, hah, hai⟩ := handlerOf_storage_iff a
  obtain ⟨hbw, hbh, hbi⟩ := handlerOf_storage_iff b
  unfold SameByte
  rw [← BitVec.toNat_inj]
  obtain ⟨i, h⟩ | ⟨i, h⟩ | h := (writable_iff a).mp ha <;> rw [h]
  · rw [haw] at h
    rw [hbw]
    omega
  · rw [hah] at h
    rw [hbh]
    omega
  · rw [hai] at h
    rw [hbi]
    omega

/-- The stubs of 20_memory.md rules R54, R57 and R58. -/
theorem handlerOf_stub (a : Word)
    (h : (0x8000 ≤ a.toNat ∧ a.toNat ≤ 0xBFFF) ∨ (0xFE00 ≤ a.toNat ∧ a.toNat ≤ 0xFF7F)) :
    handlerOf a = .videoRam ∨ handlerOf a = .externalRam ∨ handlerOf a = .objectMemory ∨ handlerOf a = .prohibited ∨
    handlerOf a = .ioRegisters := by
  rcases handlerOf_rows a with ⟨_, h'⟩ | ⟨_, _, h'⟩ | ⟨_, _, h'⟩ | ⟨_, _, h'⟩ | ⟨_, _, h'⟩ | ⟨_, _, h'⟩ | ⟨_, _, h'⟩ |
    ⟨_, _, h'⟩ | ⟨_, _, h'⟩ | ⟨_, h'⟩ <;>
    simp only [h', reduceCtorEq, or_false, or_true] <;> omega

/-! ### Reads and writes, row by row -/

theorem memRead_cartridge (s : State) (a : Word) (h : a.toNat ≤ 0x7FFF) : memRead a s = cartRead s.bus.cart a.toNat := by
  simp [memRead, Bus.read, handlerOf_cartridge a h]

theorem memRead_stub (s : State) (a : Word)
    (h : (0x8000 ≤ a.toNat ∧ a.toNat ≤ 0xBFFF) ∨ (0xFE00 ≤ a.toNat ∧ a.toNat ≤ 0xFF7F)) : memRead a s = Config.fill := by
  obtain h | h | h | h | h := handlerOf_stub a h <;> simp [memRead, Bus.read, h]

/-- A write outside WRAM, HRAM and IE is dropped (20_memory.md rules R53, R54, R57, R58). -/
theorem memWrite_of_not_writable (s : State) (a : Word) (v : Byte) (h : ¬ Writable a) : memWrite a v s = s := by
  have hbus : s.bus.write a v = s.bus := by
    rw [writable_iff] at h
    obtain hw | ⟨i, hi, -⟩ | ⟨i, hi, -⟩ | ⟨hi, -⟩ := s.bus.write_cases a v
    · exact hw
    · exact absurd (.inl ⟨i, hi⟩) h
    · exact absurd (.inr (.inl ⟨i, hi⟩)) h
    · exact absurd (.inr (.inr hi)) h
  rw [memWrite, hbus]

/-- An address of WRAM reads and writes the byte at its index. -/
theorem memRead_memWrite_workRam {s : State} {a : Word} {i : Nat} (v : Byte) (hs : s.Inv) (h : handlerOf a = .workRam i) :
    memRead a s = s.bus.wram.read i ∧ memRead a (memWrite a v s) = v ∧
    (memWrite a v s).bus.wram = s.bus.wram.write i v :=
  ⟨by simp [memRead, Bus.read, h], s.bus.read_write_workRam a a v i hs.wramWf h h, by simp [memWrite, Bus.write, h]⟩

/-- An address of HRAM reads and writes the byte at its index. -/
theorem memRead_memWrite_highRam {s : State} {a : Word} {i : Nat} (v : Byte) (hs : s.Inv) (h : handlerOf a = .highRam i) :
    memRead a s = s.bus.hram.read i ∧ memRead a (memWrite a v s) = v ∧
    (memWrite a v s).bus.hram = s.bus.hram.write i v :=
  ⟨by simp [memRead, Bus.read, h], s.bus.read_write_highRam a v i hs.hramWf h, by simp [memWrite, Bus.write, h]⟩

/-- IE's address reads and writes IE. -/
theorem memRead_memWrite_interruptEnable (s : State) {a : Word} (v : Byte) (h : handlerOf a = .interruptEnable) :
    memRead a s = s.bus.ie ∧ memRead a (memWrite a v s) = v ∧ (memWrite a v s).bus.ie = v :=
  ⟨by simp [memRead, Bus.read, h], s.bus.read_write_interruptEnable a v h, by simp [memWrite, Bus.write, h]⟩

/-! ### A write, seen from every address -/

/-- An address matters to a read only by its handler and index. -/
theorem memRead_congr {a b : Word} (s : State) (h : handlerOf b = handlerOf a) : memRead b s = memRead a s := by
  simp only [memRead, Bus.read, h]

/-- A written byte is read back by every address that names it. -/
theorem memRead_memWrite_sameByte {s : State} {a b : Word} (v : Byte) (hs : s.Inv) (ha : Writable a)
    (hab : SameByte a b) : memRead b (memWrite a v s) = v := by
  rw [memRead_congr _ ((handlerOf_eq_iff_sameByte b ha).mpr hab)]
  obtain ⟨i, h⟩ | ⟨i, h⟩ | h := (writable_iff a).mp ha
  · exact s.bus.read_write_workRam a a v i hs.wramWf h h
  · exact s.bus.read_write_highRam a v i hs.hramWf h
  · exact s.bus.read_write_interruptEnable a v h

/-- Every address that does not name the written byte reads as before. -/
theorem memRead_memWrite_other (s : State) {a b : Word} (v : Byte) (hab : ¬ (Writable a ∧ SameByte a b)) :
    memRead b (memWrite a v s) = memRead b s := by
  by_cases ha : Writable a
  · exact s.bus.read_write_other a b v fun h => hab ⟨ha, (handlerOf_eq_iff_sameByte b ha).mp h.symm⟩
  · rw [memWrite_of_not_writable s a v ha]

end Sys2Proof.Machine

/-! PROOFS, the memory family: the byte of memory a step stores to. -/

namespace Sys2Proof.Machine

open Sys2Proof.Claim

/-- The address of a data write, if it writes to memory. -/
def DataWrite.storeAddr : DataWrite → Option Word
  | .byte a _ => some a
  | _ => none

/-- A data write changes the read of no byte but the one it stores. -/
theorem DataWrite.memRead_run (d : DataWrite) (s : State) (b : Word)
    (hb : ∀ a, d.storeAddr = some a → ¬ (Writable a ∧ SameByte a b)) : memRead b (d.run s) = memRead b s := by
  cases d with
  | byte a v => exact memRead_memWrite_other s v (hb a rfl)
  | _ => simp [run]

theorem memRead_shapeEffect (sh : Shape) (s : State) (b : Word) :
    memRead b (shapeEffect sh s) = memRead b ((dataWrite sh s).run s) := by
  simp [shapeEffect_eq, memRead]

/-- The table of 20_memory.md rule R64, opcode by opcode. -/
theorem storeAddr_decodeMain (op b₁ b₂ : Byte) (s : State) :
    (dataWrite (decodeMain op b₁ b₂).shape s).storeAddr =
      if storesAtHl.contains op then some s.hl
      else if [0x02#8].contains op then some s.bc
      else if [0x12#8].contains op then some s.de
      else if [0xEA#8].contains op then some (word16 b₂ b₁)
      else none := by
  revert op
  refine byte_cases fun n hn => ?_
  interval_cases n <;> rfl

/-- The fetched instruction's data write goes to the address that its opcode and addressing mode give. -/
theorem storeAddr_fetchInstr (s : State) : (dataWrite (fetchInstr s).shape s).storeAddr = storeAddress s := by
  obtain ⟨h, hi⟩ | ⟨h, hi⟩ := fetchInstr_cases s
  · simp only [storeAddress, runs, h, hi, Bool.not_true, Bool.and_false]
    rfl
  · simp only [storeAddress, runs, h, hi, Bool.not_false, Bool.and_true, storeAddr_decodeMain]
    rfl

/-- A step changes the read of no byte but the one it stores. -/
theorem memRead_step {s t : State} (h : step s = .next t) (b : Word)
    (hb : ∀ a, storeAddress s = some a → ¬ (Writable a ∧ SameByte a b)) : memRead b t = memRead b s := by
  rw [step_next h, memRead_endStep, memRead_shapeEffect]
  exact DataWrite.memRead_run _ s b (by rwa [storeAddr_fetchInstr])

end Sys2Proof.Machine

/-! PROOFS, the memory family: the obligations settled. -/

namespace Sys2Proof.Machine

open Sys2Proof.Claim

/-- Settles O51: a step's one write to memory is the data write of the fetched instruction, at `storeAddress`. -/
theorem onlyStoresChangeMemory : Obligations.OnlyStoresChangeMemory := by
  intro s t h
  refine ⟨fun hnone b => memRead_step h b ?_, fun a ha b hb => memRead_step h b ?_⟩
  · simp [hnone]
  · simpa [ha] using hb

/-- Settles O8: the read delegates to the cartridge, whose index is in range or not. -/
theorem cartridgeReadsByteOrFill : Obligations.CartridgeReadsByteOrFill := by
  intro s a ha
  rw [memRead_cartridge s a ha]
  refine ⟨fun hnone => by rw [hnone]; rfl, fun bytes hsome => ⟨fun hlt => ?_, fun hle => ?_⟩⟩
  · simp [hsome, cartRead, hlt]
  · simp [hsome, cartRead, hle, Config.fill]

/-- Settles O11: both ranges serve WRAM, an address and its mirror address name the same byte, and a byte above the
mirror's end has no second address. -/
theorem workRamAndItsMirror : Obligations.WorkRamAndItsMirror := by
  intro s v hs
  refine ⟨fun a h h' => memRead_memWrite_workRam v hs (handlerOf_workRam a h h'),
    fun a h h' => memRead_memWrite_workRam v hs (handlerOf_mirror a h h'), fun a b h h' hab => ⟨?_, ?_⟩,
    fun a b h h' hne => memRead_memWrite_other s v ?_⟩
  · exact memRead_memWrite_sameByte v hs (.inl ⟨h, by omega⟩) (.inr (.inl ⟨h, h', hab⟩))
  · exact memRead_memWrite_sameByte v hs (.inl ⟨by omega, by omega⟩) (.inr (.inr ⟨by omega, by omega, hab.symm⟩))
  · rintro ⟨-, hsame | ⟨-, hdirect, -⟩ | ⟨hmirror, -, -⟩⟩
    · exact hne hsame
    · omega
    · omega

/-- Settles O12: the range serves HRAM by direct index, and 0xFFFF serves IE. -/
theorem highRamAndInterruptEnable : Obligations.HighRamAndInterruptEnable := by
  intro s v hs
  exact ⟨fun a h h' => memRead_memWrite_highRam v hs (handlerOf_highRam a h h'),
    memRead_memWrite_interruptEnable s v (handlerOf_interruptEnable 0xFFFF rfl)⟩

/-- Settles O13: the addresses of the written byte are those with its handler and index. -/
theorem busWriteChangesOneByte : Obligations.BusWriteChangesOneByte := by
  intro s a v hs
  exact ⟨fun ha b hab => memRead_memWrite_sameByte v hs ha hab, fun b hab => memRead_memWrite_other s v hab⟩

/-- Settles O9: no write lands in the cartridge range. -/
theorem cartridgeWritesAreDropped : Obligations.CartridgeWritesAreDropped := by
  intro s a v h
  exact memWrite_of_not_writable s a v (by unfold Writable; omega)

/-- Settles O10: the five stub rows read the fill value, and no write lands there. -/
theorem stubsReadFillAndIgnoreWrites : Obligations.StubsReadFillAndIgnoreWrites := by
  intro s a v h
  exact ⟨memRead_stub s a h, memWrite_of_not_writable s a v (by unfold Writable; omega)⟩

end Sys2Proof.Machine

/-! PROOFS, the encoding family (30_encoding.md): the bytes an instruction encodes to and the entry its table has at those
bytes, and the INVALID entries of a table. -/

namespace Sys2Proof

open Sys2Proof.Claim

/-! ### The encoder's bytes -/

theorem Shape.length_operandBytes (sh : Shape) : sh.operandBytes.length + 1 = sh.length := by
  cases sh <;> rfl

/-- An encoding is as long as its shape says (30_encoding.md rule R80). -/
theorem length_encode (i : Instr) : (encode i).length = i.shape.length := i.shape.length_operandBytes

theorem Shape.length_le_three (sh : Shape) : sh.length ≤ 3 := by
  cases sh <;> simp [Shape.length]

/-- A word is its two bytes, low byte first, read back (30_encoding.md rule R83). -/
theorem word16_of_wordBytes {d16 : Word} {b₁ b₂ : Byte} (h : wordBytes d16 <+: [b₁, b₂]) : word16 b₂ b₁ = d16 := by
  obtain ⟨hlo, hhi⟩ : Machine.loByte d16 = b₁ ∧ Machine.hiByte d16 = b₂ := by
    simpa [wordBytes, Machine.loByte, Machine.hiByte] using h
  rw [← hlo, ← hhi]
  exact Machine.word_eq_halves d16

/-! ### The entry at an instruction's own bytes -/

/-- The grid (30_encoding.md rule R87) has each instruction at the opcode of its bit pattern (rule R84), and reads its
operands from the bytes the encoder writes. An opcode's bits do not depend on its operands: written out, they are the
closed index at which the table is read. -/
theorem decodeMain_encoded (i : Instr) (b₁ b₂ : Byte) (h : i.wellFormed = true)
    (hb : i.shape.operandBytes <+: [b₁, b₂]) : decodeMain i.opcode b₁ b₂ = i := by
  cases i with
  | ldBcD16 d16 | ldDeD16 d16 | ldHlD16 d16 | ldSpD16 d16 | jpA16 d16 | ldAtA16A d16 | ldAAtA16 d16 =>
    rw [← word16_of_wordBytes hb]
    dsimp only [Instr.opcode, Instr.shape, Shape.opcode]
    rfl
  | ldBD8 d8 | ldCD8 d8 | ldDD8 d8 | ldED8 d8 | ldHD8 d8 | ldLD8 d8 | ldAD8 d8 | ldAtHlD8 d8 | prefixCb d8 =>
    rw [(List.cons_prefix_cons.mp hb).1]
    dsimp only [Instr.opcode, Instr.shape, Shape.opcode]
    rfl
  | invalidCbCbop cbop | invalidWithdrawn op => cases h
  | _ => rfl

/-- The instructions of a narrower table: those of rule R86 at the bytes it keeps, and INVALID at those it withdraws. -/
theorem wellFormedIn_cases {w : List Byte} {i : Instr} (h : i.wellFormedIn w = true) :
    (∃ op, i = .invalidWithdrawn op ∧ isWithdrawn w op = true) ∨
    (i.wellFormed = true ∧ isWithdrawn w i.opcode = false) := by
  unfold Instr.wellFormedIn at h
  split at h
  · exact .inl ⟨_, rfl, h⟩
  · exact .inr (by simpa using h)

theorem entryIn_encoded {w : List Byte} {i : Instr} (b₁ b₂ : Byte) (h : i.wellFormedIn w = true)
    (hb : i.shape.operandBytes <+: [b₁, b₂]) : entryIn w i.opcode b₁ b₂ = i := by
  obtain ⟨op, rfl, hw⟩ | ⟨hi, hw⟩ := wellFormedIn_cases h
  · exact entryIn_withdrawn w op b₁ b₂ hw
  · rw [entryIn_kept w _ b₁ b₂ hw, decodeMain_encoded i b₁ b₂ hi hb]

/-! ### The decoder's two bytes after the opcode -/

/-- Of the two bytes the decoder reads after the opcode, zero where there are none, the first `n` stand in the list. -/
theorem take_operands {n : Nat} {tail : List Byte} (hn : n ≤ 2) (h : n ≤ tail.length) :
    [tail.getD 0 0, tail.getD 1 0].take n = tail.take n := by
  match n, tail, hn, h with
  | 0, _, _, _ => rfl
  | 1, b₁ :: _, _, _ => rfl
  | 2, b₁ :: b₂ :: _, _, _ => rfl

/-- A table's entry at the encoding of one of its instructions is that instruction, whatever bytes follow. -/
theorem entryIn_encode (w : List Byte) (i : Instr) (rest : List Byte) (h : i.wellFormedIn w = true) :
    entryIn w i.opcode ((i.shape.operandBytes ++ rest).getD 0 0) ((i.shape.operandBytes ++ rest).getD 1 0) = i := by
  refine entryIn_encoded _ _ h ?_
  have hlen := i.shape.length_operandBytes
  have hthree := i.shape.length_le_three
  have htake : (i.shape.operandBytes ++ rest).take i.shape.operandBytes.length = i.shape.operandBytes :=
    List.take_left' rfl
  rw [List.prefix_iff_eq_take, take_operands (by omega) (by simp), htake]

/-- Decoding an encoding, under any table that has the instruction. -/
theorem decodeIn_encode (w : List Byte) (i : Instr) (rest : List Byte) (h : i.wellFormedIn w = true) :
    decodeIn w (encode i ++ rest) = .ok (i, rest) := by
  have hentry := entryIn_encode w i rest h
  have hlen : lengthIn w i.opcode = i.shape.operandBytes.length + 1 := by
    rw [i.shape.length_operandBytes, ← congrArg (fun j => j.shape.length) hentry, length_entryIn]
  rw [encode, List.cons_append, decodeIn_cons w _ _ (by simp [hlen]), hentry, hlen]
  simp

/-- Every instruction of the table of rule R86 stands in the table that withdraws nothing. -/
theorem decode_encode (i : Instr) (rest : List Byte) (h : i.wellFormed = true) :
    decode (encode i ++ rest) = .ok (i, rest) :=
  decodeIn_encode [] i rest (wellFormedIn_kept [] i h)

/-- An entry's encoding is the bytes it was decoded from. -/
theorem encode_entryIn (w : List Byte) (op : Byte) (tail : List Byte) (h : lengthIn w op ≤ tail.length + 1) :
    encode (entryIn w op (tail.getD 0 0) (tail.getD 1 0)) = op :: tail.take (lengthIn w op - 1) := by
  have hcases := lengthIn_cases w op
  rw [encode, opcode_entryIn, operandBytes_entryIn, take_operands (by omega) (by omega)]

/-! ### The INVALID entries -/

/-- Is the shape INVALID at a main-table opcode? -/
def Shape.isInvalid : Shape → Bool
  | .invalid _ => true
  | _ => false

theorem Shape.isInvalid_iff (sh : Shape) : sh.isInvalid = true ↔ sh = .invalid sh.opcode := by
  cases sh <;> simp [Shape.isInvalid, Shape.opcode]

/-- The INVALID entries of the grid (30_encoding.md rule R87) stand in the ranges of rule R89. -/
theorem isInvalid_decodeMain (op b₁ b₂ : Byte) : (decodeMain op b₁ b₂).shape.isInvalid = isInvalidOpcode op := by
  revert op
  refine byte_cases fun n hn => ?_
  interval_cases n <;> rfl

theorem shape_decodeMain_invalid_iff (op b₁ b₂ : Byte) :
    (decodeMain op b₁ b₂).shape = .invalid op ↔ isInvalidOpcode op = true := by
  have hop : (decodeMain op b₁ b₂).shape.opcode = op := opcode_decodeMain op b₁ b₂
  rw [← isInvalid_decodeMain op b₁ b₂, Shape.isInvalid_iff, hop]

/-- Rule R86 assigns the bytes that rule R89 does not list. -/
theorem isAssigned_iff (op : Byte) : isAssigned op = true ↔ isInvalidOpcode op = false := by
  rw [isAssigned, decide_eq_true_iff, Ne, shape_decodeMain_invalid_iff, Bool.not_eq_true]

theorem shape_entryIn_invalid_iff (w : List Byte) (op b₁ b₂ : Byte) :
    (entryIn w op b₁ b₂).shape = .invalid op ↔ isInvalidIn w op = true := by
  cases h : isWithdrawn w op
  · rw [entryIn_kept w op b₁ b₂ h, shape_decodeMain_invalid_iff, isInvalidIn, h, Bool.or_false]
  · rw [entryIn_withdrawn w op b₁ b₂ h, isInvalidIn, h, Bool.or_true]
    exact iff_of_true rfl rfl

end Sys2Proof

/-! PROOFS, the encoding family: the obligations settled. -/

namespace Sys2Proof

/-- Settles O2: the entry at an encoding is the instruction, and as many bytes are taken as were written. -/
theorem decodeOfEncodedInstruction : Obligations.DecodeOfEncodedInstruction :=
  ⟨decodeIn_encode, decode_encode⟩

/-- Settles O3: what decodes is an entry of the table, with its operand bytes at the head of the list. -/
theorem encodeOfDecodedBytes : Obligations.EncodeOfDecodedBytes := by
  intro w bytes i rest h
  obtain ⟨op, tail, rfl, hlen, rfl, rfl⟩ := decodeIn_ok w bytes i rest h
  refine ⟨wellFormedIn_entryIn w op _ _, ?_⟩
  rw [encode_entryIn w op tail hlen, List.cons_append, List.take_append_drop]

/-- Settles O4: the number of bytes is `lengthIn`, which is the length of the entry's encoding. -/
theorem opcodeTellsLength : Obligations.OpcodeTellsLength := by
  intro w op bytes n
  have hn : n = lengthIn w op := rfl
  rw [hn]
  exact ⟨fun h => ⟨_, decodeIn_cons w op bytes h, (length_encode _).trans (length_entryIn w op _ _)⟩,
    decodeIn_truncated w op bytes⟩

/-- Settles O5: a withdrawn byte is one that rule R86 assigns, and the two tables differ there only. -/
theorem narrowerTableWithdrawsOpcodes : Obligations.NarrowerTableWithdrawsOpcodes := by
  intro w op b₁ b₂
  refine ⟨?_, shape_entryIn_invalid_iff w op b₁ b₂, entryIn_kept w op b₁ b₂⟩
  rw [isWithdrawn_iff, isAssigned_iff]
  rfl

/-- Settles O6: the grid's INVALID entries, read off the 256 opcodes, are the ranges of rule R89. -/
theorem invalidOpcodesAreThose139 : Obligations.InvalidOpcodesAreThose139 :=
  ⟨shape_decodeMain_invalid_iff, by decide⟩

/-- Settles O7: no table withdraws 0xCB, so the pair is the encoding of PREFIX CB under each; PREFIX CB and the entry
it redispatches to have one effect. -/
theorem secondaryTableIsAllInvalid : Obligations.SecondaryTableIsAllInvalid := by
  intro w cbop rest
  refine ⟨decodeIn_encode w (.prefixCb cbop) rest ?_, rfl, fun s => ?_⟩
  · have hkept : isWithdrawn w 0xCB = false := isWithdrawn_source w 0xCB (by decide)
    exact (wellFormedIn_kept w (.prefixCb cbop) rfl).trans (congrArg not hkept)
  · simp only [Machine.exec_eq_shapeEffect]
    rfl

/-- Settles O1: each word is the encoding of its instruction. -/
theorem wordsOfTheEncodingTablesDecode : Obligations.WordsOfTheEncodingTablesDecode :=
  ⟨decode_encode .nop [] rfl, decode_encode (.ldHlD16 0xC000) [] rfl, decode_encode (.ldAD8 0xAA) [] rfl,
    decode_encode .ldHL [] rfl, decode_encode .halt [] rfl, decode_encode .subAtHl [] rfl,
    decode_encode (.jpA16 0x1234) [] rfl, decode_encode (.prefixCb 0x11) [] rfl,
    decode_encode (.ldAtA16A 0xFF80) [] rfl, decode_encode .invalidD3 [] rfl⟩

end Sys2Proof

/-! PROOFS, the arithmetic family (40_alu8.md): what the effect of a shape does in the words of the obligations, read off
its data write and its flag write. -/

namespace Sys2Proof.Machine

open Sys2Proof.Claim

/-! ### An instruction, by its shape -/

theorem exec_of_shape {i : Instr} {sh : Shape} (hi : i.shape = sh) (s : State) : exec i s = .next (shapeEffect sh s) := by
  rw [exec_eq_shapeEffect, hi]

theorem encoded_of_shape {i : Instr} {sh : Shape} {op : Nat} (hi : i.shape = sh) (hop : sh.opcode = BitVec.ofNat 8 op) :
    Encoded i op sh.operandBytes := by
  rw [Encoded, encode, Instr.opcode, hi, hop]

/-! ### What every effect leaves, and how it ends -/

theorem DataWrite.aside_run (d : DataWrite) (s : State) : Aside s (d.run s) := by
  cases d <;> simp [Aside, run]

theorem FlagWrite.aside_run (w : FlagWrite) (s : State) : Aside s (w.run s) := by
  cases w <;> simp [Aside, run]

theorem aside_trans {s t u : State} (h : Aside s t) (h' : Aside t u) : Aside s u := by
  obtain ⟨htotal, htrace, hreport, hcycles, hcart, hwithdrawn, hfree⟩ := h
  obtain ⟨htotal', htrace', hreport', hcycles', hcart', hwithdrawn', hfree'⟩ := h'
  exact ⟨htotal'.trans htotal, htrace'.trans htrace, hreport'.trans hreport, hcycles'.trans hcycles,
    hcart'.trans hcart, hwithdrawn'.trans hwithdrawn, hfree'.trans hfree⟩

theorem aside_shapeEffect (sh : Shape) (s : State) : Aside s (shapeEffect sh s) := by
  rw [shapeEffect_eq]
  exact aside_trans (DataWrite.aside_run _ s) (FlagWrite.aside_run _ _)

/-- An instruction that is neither a jump nor HALT ends past its own bytes, at the cost of its row of
70_reset_and_hazards.md rule R180. -/
theorem ends_shapeEffect {sh : Shape} {s : State} (hpc : nextPc sh s = s.pc + BitVec.ofNat 16 sh.length) :
    Ends sh.length (cost sh s.cycles) (cost sh defaultCycles) s (shapeEffect sh s) := by
  rw [shapeEffect_eq, hpc]
  refine ⟨?_, rfl, rfl, fun hdefault => by rw [hdefault]; rfl⟩
  simp [BitVec.toNat_add]

/-! ### What the data write decides -/

@[simp] theorem FlagWrite.readReg_run (w : FlagWrite) (q : Reg8) (s : State) : readReg q (w.run s) = readReg q s := by
  cases w <;> simp [run]

@[simp] theorem FlagWrite.diags_run (w : FlagWrite) (s : State) : (w.run s).diags = s.diags := by cases w <;> rfl

theorem readReg_shapeEffect (sh : Shape) (q : Reg8) (s : State) :
    readReg q (shapeEffect sh s) = readReg q ((dataWrite sh s).run s) := by
  simp [shapeEffect_eq]

theorem shapeEffect_diags (sh : Shape) (s : State) : (shapeEffect sh s).diags = ((dataWrite sh s).run s).diags := by
  simp [shapeEffect_eq]

section
variable {sh : Shape} {s : State} {y : Reg8} {a : Word} {v : Byte}

/-- The register a data write names receives the byte. -/
theorem readReg_of_reg (h : dataWrite sh s = .reg y v) : readReg y (shapeEffect sh s) = v := by
  simp [readReg_shapeEffect, h, DataWrite.run]

/-- An effect whose data write goes to one register leaves the others, SP, memory and the diagnostics. -/
theorem registerFrame_of_reg (h : dataWrite sh s = .reg y v) : RegisterFrame [y] s (shapeEffect sh s) := by
  refine ⟨⟨fun q hq => ?_, ?_⟩, fun b => ?_, ?_, aside_shapeEffect sh s⟩
  · rw [readReg_shapeEffect, h]
    exact readReg_writeReg_other q y v s (List.ne_of_not_mem_cons hq)
  · rw [shapeEffect_sp, h]
    rfl
  · rw [memRead_shapeEffect, h]
    exact memRead_writeReg b y v s
  · rw [shapeEffect_diags, h]
    exact writeReg_diags y v s

/-- An effect whose data write goes to memory stores that byte. -/
theorem stores_of_byte (hs : s.Inv) (h : dataWrite sh s = .byte a v) : Stores a v s (shapeEffect sh s) := by
  simp only [Stores, memRead_shapeEffect, h]
  exact busWriteChangesOneByte s a v hs

/-- An effect whose data write goes to memory leaves the registers, SP and the diagnostics. -/
theorem storeFrame_of_byte (h : dataWrite sh s = .byte a v) : StoreFrame s (shapeEffect sh s) := by
  refine ⟨⟨fun q _ => ?_, ?_⟩, ?_, aside_shapeEffect sh s⟩
  · rw [readReg_shapeEffect, h]
    exact readReg_memWrite q a v s
  · rw [shapeEffect_sp, h]
    rfl
  · rw [shapeEffect_diags, h]
    exact memWrite_diags a v s

end

/-! ### Arithmetic on exact operands -/

/-- A difference of bytes, its operands in the order of 40_alu8.md rule R104. -/
theorem toNat_sub_byte (a b : Byte) : (a - b).toNat = (a.toNat + 256 - b.toNat) % 256 := by
  have hlt := b.isLt
  rw [BitVec.toNat_sub]
  omega

theorem incFlags_increment8 (v : Byte) (s : State) : IncFlags v.toNat s (increment8 v s) := by
  obtain ⟨hz, hn, hh, hc⟩ := increment8_flags v s
  refine ⟨?_, hn, ?_, hc⟩
  · have hlt := v.isLt
    rw [hz, ← byte_eq_zero_iff, beq_iff_eq, BitVec.toNat_add]
    change (v.toNat + 1) % 256 = 0 ↔ v.toNat = 255
    omega
  · rw [hh, beq_iff_eq, lowNibble]

theorem decFlags_decrement8 (v : Byte) (s : State) : DecFlags v.toNat s (decrement8 v s) := by
  obtain ⟨hz, hn, hh, hc⟩ := decrement8_flags v s
  refine ⟨?_, hn, ?_, hc⟩
  · rw [hz, beq_iff_eq, sub_eq_zero, ← BitVec.toNat_inj]
    rfl
  · rw [hh, beq_iff_eq, lowNibble]

theorem addFlags_add8 (a b : Byte) (s : State) : AddFlags a.toNat b.toNat (add8 a b s) := by
  obtain ⟨hz, hn, hh, hc⟩ := add8_flags a b s
  refine ⟨?_, hn, ?_, ?_⟩
  · rw [hz, ← byte_eq_zero_iff, beq_iff_eq, BitVec.toNat_add]
  · rw [hh, decide_eq_true_iff, lowNibble, lowNibble]
  · rw [hc, decide_eq_true_iff]

theorem subFlags_subtract8 (a b : Byte) (s : State) : SubFlags a.toNat b.toNat (subtract8 a b s) := by
  obtain ⟨hz, hn, hh, hc⟩ := subtract8_flags a b s
  refine ⟨?_, hn, ?_, ?_⟩
  · rw [hz, beq_iff_eq, sub_eq_zero, BitVec.toNat_inj]
  · rw [hh, decide_eq_true_iff, lowNibble, lowNibble]
  · rw [hc, decide_eq_true_iff]

/-! ### What the flag write decides: the end of the instruction leaves the flags, and the data write came before -/

section
variable {sh : Shape} {s : State} {v a b : Byte}

theorem incFlags_of_inc (h : flagWrite sh s = .inc v) : IncFlags v.toNat s (shapeEffect sh s) := by
  rw [shapeEffect_eq, h]
  obtain ⟨hz, hn, hh, hc⟩ := incFlags_increment8 v ((dataWrite sh s).run s)
  exact ⟨hz, hn, hh, hc.trans (DataWrite.flagC_run _ s)⟩

theorem decFlags_of_dec (h : flagWrite sh s = .dec v) : DecFlags v.toNat s (shapeEffect sh s) := by
  rw [shapeEffect_eq, h]
  obtain ⟨hz, hn, hh, hc⟩ := decFlags_decrement8 v ((dataWrite sh s).run s)
  exact ⟨hz, hn, hh, hc.trans (DataWrite.flagC_run _ s)⟩

theorem addFlags_of_add (h : flagWrite sh s = .add a b) : AddFlags a.toNat b.toNat (shapeEffect sh s) := by
  rw [shapeEffect_eq, h]
  exact addFlags_add8 a b _

theorem subFlags_of_sub (h : flagWrite sh s = .sub a b) : SubFlags a.toNat b.toNat (shapeEffect sh s) := by
  rw [shapeEffect_eq, h]
  exact subFlags_subtract8 a b _

theorem logicFlags_of_logic {hf : Bool} (h : flagWrite sh s = .logic v hf) :
    flagZ (shapeEffect sh s) = (v == 0) ∧ flagN (shapeEffect sh s) = false ∧ flagH (shapeEffect sh s) = hf ∧
    flagC (shapeEffect sh s) = false := by
  rw [shapeEffect_eq, h]
  exact logic8_flags v hf _

end

end Sys2Proof.Machine

/-! PROOFS, the arithmetic family: the obligations settled. -/

namespace Sys2Proof.Machine

open Sys2Proof.Claim

/-- Settles O16: INC r writes `r + 1` to `r`, and its flags are Increment8 of the old value. -/
theorem incRegister : Obligations.IncRegister := by
  intro i y s hi
  refine ⟨encoded_of_shape hi (by cases y <;> rfl), _, exec_of_shape hi s, ?_, incFlags_of_inc rfl, shapeEffect_low _ s,
    ends_shapeEffect rfl, registerFrame_of_reg rfl⟩
  rw [readReg_of_reg rfl]
  exact BitVec.toNat_add _ 1

/-- Settles O17: DEC r writes `r - 1` to `r`, and its flags are Decrement8 of the old value. -/
theorem decRegister : Obligations.DecRegister := by
  intro i y s hi
  refine ⟨encoded_of_shape hi (by cases y <;> rfl), _, exec_of_shape hi s, ?_, decFlags_of_dec rfl, shapeEffect_low _ s,
    ends_shapeEffect rfl, registerFrame_of_reg rfl⟩
  rw [readReg_of_reg rfl]
  exact toNat_sub_byte _ 1

/-- Settles O18: INC (HL) stores the byte at HL plus one, and its flags are Increment8 of the byte read. -/
theorem incMemoryAtHl : Obligations.IncMemoryAtHl := by
  intro s hs
  exact ⟨encoded_of_shape rfl rfl, _, exec_of_shape rfl s, stores_of_byte hs rfl, incFlags_of_inc rfl,
    shapeEffect_low _ s, ends_shapeEffect rfl, storeFrame_of_byte rfl⟩

/-- Settles O19: ADD A,r writes the sum to A, and its flags are Add8 of the old values. -/
theorem addRegister : Obligations.AddRegister := by
  intro i z s hi
  refine ⟨encoded_of_shape hi (by cases z <;> rfl), _, exec_of_shape hi s, ?_, addFlags_of_add rfl, shapeEffect_low _ s,
    ends_shapeEffect rfl, registerFrame_of_reg rfl⟩
  rw [readReg_of_reg rfl]
  exact BitVec.toNat_add _ _

/-- Settles O20: ADD A,(HL) is the sum with the byte at HL. -/
theorem addMemoryAtHl : Obligations.AddMemoryAtHl := by
  intro s
  refine ⟨encoded_of_shape rfl rfl, _, exec_of_shape rfl s, ?_, addFlags_of_add rfl, shapeEffect_low _ s,
    ends_shapeEffect rfl, registerFrame_of_reg rfl⟩
  rw [readReg_of_reg rfl]
  exact BitVec.toNat_add _ _

/-- Settles O21: SUB r writes the difference to A, and its flags are Subtract8 of the old values. -/
theorem subRegister : Obligations.SubRegister := by
  intro i z s hi
  refine ⟨encoded_of_shape hi (by cases z <;> rfl), _, exec_of_shape hi s, ?_, subFlags_of_sub rfl, shapeEffect_low _ s,
    ends_shapeEffect rfl, registerFrame_of_reg rfl⟩
  rw [readReg_of_reg rfl]
  exact toNat_sub_byte _ _

/-- Settles O22: SUB (HL) is the difference with the byte at HL. -/
theorem subMemoryAtHl : Obligations.SubMemoryAtHl := by
  intro s
  refine ⟨encoded_of_shape rfl rfl, _, exec_of_shape rfl s, ?_, subFlags_of_sub rfl, shapeEffect_low _ s,
    ends_shapeEffect rfl, registerFrame_of_reg rfl⟩
  rw [readReg_of_reg rfl]
  exact toNat_sub_byte _ _

/-- Settles O23: whatever A is, its exclusive or with itself is zero, and the flags are Logic8 of zero. -/
theorem xorAZeroes : Obligations.XorAZeroes := by
  intro s
  obtain ⟨hz, hn, hh, hc⟩ := logicFlags_of_logic (sh := .xorA) (s := s) rfl
  rw [BitVec.xor_self] at hz
  refine ⟨encoded_of_shape rfl rfl, _, exec_of_shape rfl s, ?_, hz, hn, hh, hc, shapeEffect_low _ s,
    ends_shapeEffect rfl, registerFrame_of_reg rfl⟩
  rw [readReg_of_reg rfl]
  exact BitVec.xor_self

end Sys2Proof.Machine

/-! PROOFS, the load family (41_loads.md): an instruction that loads a register or stores a byte and writes no flag, and an
effect that writes a register pair. -/

namespace Sys2Proof.Machine

open Sys2Proof.Claim

/-! ### Loads and stores, by the data write -/

section
variable {i : Instr} {sh : Shape} {s : State}

/-- No data write touches F, so an effect without a flag write keeps it (41_loads.md rule R131). -/
theorem keepsFlags_of_keep (hf : flagWrite sh s = .keep) : KeepsFlags s (shapeEffect sh s) := by
  rw [KeepsFlags, shapeEffect_readF, hf]
  exact DataWrite.readF_run _ s

/-- A load: one register receives a byte. -/
theorem exec_load_of_shape {y : Reg8} {v : Byte} (hi : i.shape = sh) (hd : dataWrite sh s = .reg y v)
    (hf : flagWrite sh s = .keep) (hpc : nextPc sh s = s.pc + BitVec.ofNat 16 sh.length) :
    ∃ t, exec i s = .next t ∧ readReg y t = v ∧ KeepsFlags s t ∧
      Ends sh.length (cost sh s.cycles) (cost sh defaultCycles) s t ∧ RegisterFrame [y] s t :=
  ⟨_, exec_of_shape hi s, readReg_of_reg hd, keepsFlags_of_keep hf, ends_shapeEffect hpc, registerFrame_of_reg hd⟩

/-- A store: one address receives a byte. -/
theorem exec_store_of_shape {a : Word} {v : Byte} (hi : i.shape = sh) (hs : s.Inv) (hd : dataWrite sh s = .byte a v)
    (hf : flagWrite sh s = .keep) (hpc : nextPc sh s = s.pc + BitVec.ofNat 16 sh.length) :
    ∃ t, exec i s = .next t ∧ Stores a v s t ∧ KeepsFlags s t ∧
      Ends sh.length (cost sh s.cycles) (cost sh defaultCycles) s t ∧ StoreFrame s t :=
  ⟨_, exec_of_shape hi s, stores_of_byte hs hd, keepsFlags_of_keep hf, ends_shapeEffect hpc, storeFrame_of_byte hd⟩

end

/-! ### An effect that writes a register pair -/

@[simp] theorem FlagWrite.readPair_run (w : FlagWrite) (q : RegPair) (s : State) :
    readPair q (w.run s) = readPair q s := by
  cases w <;> cases q <;> rfl

theorem readPair_shapeEffect (sh : Shape) (q : RegPair) (s : State) :
    readPair q (shapeEffect sh s) = readPair q ((dataWrite sh s).run s) := by
  simp [shapeEffect_eq]

/-- A is half of AF, which is none of the pairs that an instruction writes as a word (10_state.md rules R20, R25). -/
theorem readReg_a_writePair (p : RegPair) (v : Word) (s : State) : readReg .a (writePair p v s) = readReg .a s :=
  congrArg hiByte (writePair_af p v s)

section
variable {sh : Shape} {s : State} {p : RegPair} {v : Word}

/-- The pair a data write names receives the word. -/
theorem readPair_of_pair (hd : dataWrite sh s = .pair p v) : readPair p (shapeEffect sh s) = v := by
  rw [readPair_shapeEffect, hd]
  exact readPair_writePair_same p v s

/-- An effect whose data write goes to one pair leaves the other pairs, A, memory and the diagnostics. -/
theorem keepsOthers_of_pair (hd : dataWrite sh s = .pair p v) :
    (∀ q, q ≠ p → readPair q (shapeEffect sh s) = readPair q s) ∧
    readReg .a (shapeEffect sh s) = readReg .a s ∧ KeepsMemory s (shapeEffect sh s) ∧
    (shapeEffect sh s).diags = s.diags := by
  refine ⟨fun q hq => ?_, ?_, fun b => ?_, ?_⟩
  · rw [readPair_shapeEffect, hd]
    exact readPair_writePair_other p q v s hq
  · rw [readReg_shapeEffect, hd]
    exact readReg_a_writePair p v s
  · rw [memRead_shapeEffect, hd]
    exact memRead_writePair b p v s
  · rw [shapeEffect_diags, hd]
    exact writePair_diags p v s

end

end Sys2Proof.Machine

/-! PROOFS, the load family: the obligations settled. -/

namespace Sys2Proof.Machine

open Sys2Proof.Claim

/-- Settles O24: LD rr,d16 has one data write, its immediate to the pair. -/
theorem loadPairImmediate : Obligations.LoadPairImmediate := by
  intro i p d16 s hi
  obtain ⟨hpairs, ha, hmem, hdiags⟩ := keepsOthers_of_pair (sh := .ldRrD16 p d16) (s := s) rfl
  exact ⟨encoded_of_shape hi (by cases p <;> rfl), _, exec_of_shape hi s, readPair_of_pair rfl, hpairs, ha,
    keepsFlags_of_keep rfl, ends_shapeEffect rfl, hmem, hdiags, aside_shapeEffect _ s⟩

/-- Settles O25: LD r,d8 loads its immediate. -/
theorem loadRegisterImmediate : Obligations.LoadRegisterImmediate := by
  intro i y d8 s hi
  exact ⟨encoded_of_shape hi (by cases y <;> rfl), exec_load_of_shape hi rfl rfl rfl⟩

/-- Settles O26: LD (HL),d8 stores its immediate at HL. -/
theorem storeImmediateAtHl : Obligations.StoreImmediateAtHl := by
  intro d8 s hs
  exact ⟨encoded_of_shape rfl rfl, exec_store_of_shape rfl hs rfl rfl rfl⟩

/-- Settles O27: LD r,r' loads the old `r'`; the opcode's fields are the codes of `r` and `r'`. -/
theorem moveRegister : Obligations.MoveRegister := by
  intro i y z s hi
  exact ⟨encoded_of_shape hi (by cases y <;> cases z <;> rfl), exec_load_of_shape hi rfl rfl rfl⟩

/-- Settles O28: LD r,(HL) loads the byte at HL, read before `r` is written, so H and L are no exception. -/
theorem loadRegisterAtHl : Obligations.LoadRegisterAtHl := by
  intro i y s hi
  exact ⟨encoded_of_shape hi (by cases y <;> rfl), exec_load_of_shape hi rfl rfl rfl⟩

/-- Settles O29: LD (HL),r stores `r` at HL. -/
theorem storeRegisterAtHl : Obligations.StoreRegisterAtHl := by
  intro i z s hi hs
  exact ⟨encoded_of_shape hi (by cases z <;> rfl), exec_store_of_shape hi hs rfl rfl rfl⟩

/-- Settles O30: the pair is BC or DE, and its addressing mode reads the byte at the pair. -/
theorem loadAThroughPair : Obligations.LoadAThroughPair := by
  intro i p s hi
  obtain rfl | rfl := (shape_pair_bc_or_de i).1 p hi
  · exact ⟨.inl rfl, encoded_of_shape hi rfl, exec_load_of_shape hi rfl rfl rfl⟩
  · exact ⟨.inr rfl, encoded_of_shape hi rfl, exec_load_of_shape hi rfl rfl rfl⟩

/-- Settles O31: the pair is BC or DE, and its addressing mode stores A at the pair. -/
theorem storeAThroughPair : Obligations.StoreAThroughPair := by
  intro i p s hi hs
  obtain rfl | rfl := (shape_pair_bc_or_de i).2 p hi
  · obtain ⟨t, hexec, hstores, hrest⟩ := exec_store_of_shape hi hs rfl rfl rfl
    exact ⟨.inl rfl, encoded_of_shape hi rfl, t, hexec, fun _ => hstores, nofun, hrest⟩
  · obtain ⟨t, hexec, hstores, hrest⟩ := exec_store_of_shape hi hs rfl rfl rfl
    exact ⟨.inr rfl, encoded_of_shape hi rfl, t, hexec, nofun, fun _ => hstores, hrest⟩

/-- Settles O32: LD A,(a16) loads the byte at the immediate address. -/
theorem loadAAbsolute : Obligations.LoadAAbsolute := by
  intro a16 s
  exact ⟨encoded_of_shape rfl rfl, exec_load_of_shape rfl rfl rfl rfl⟩

/-- Settles O33: LD (a16),A stores A at the immediate address. -/
theorem storeAAbsolute : Obligations.StoreAAbsolute := by
  intro a16 s hs
  exact ⟨encoded_of_shape rfl rfl, exec_store_of_shape rfl hs rfl rfl rfl⟩

end Sys2Proof.Machine

/-! PROOFS, the control family (42_control.md): an effect that writes nothing or emits a diagnostic only, PC after the
fetched instruction, and the bytes at PC as the encoding of the instruction a step runs. -/

namespace Sys2Proof.Machine

open Sys2Proof.Claim

/-! ### An effect that leaves registers and memory -/

/-- The diagnostics of a data write that writes nothing else, if it is one. -/
def DataWrite.emitted : DataWrite → Option (List Diag)
  | .nothing => some []
  | .diag d => some [d]
  | _ => none

theorem DataWrite.run_of_emitted {d : DataWrite} {ds : List Diag} (h : d.emitted = some ds) (s : State) :
    d.run s = { s with diags := ds ++ s.diags } := by
  cases d with
  | nothing | diag =>
    cases h
    rfl
  | reg | pair | byte => cases h

section
variable {i : Instr} {sh : Shape} {s : State}

/-- An effect whose data write emits the diagnostics `ds` and no more adds those, and leaves registers and memory. -/
theorem keepsMachine_of_emitted {ds : List Diag} (hd : (dataWrite sh s).emitted = some ds) :
    (shapeEffect sh s).diags = ds ++ s.diags ∧ KeepsRegs [] s (shapeEffect sh s) ∧
    KeepsMemory s (shapeEffect sh s) := by
  have hrun := DataWrite.run_of_emitted hd s
  refine ⟨?_, ⟨fun q _ => ?_, ?_⟩, fun b => ?_⟩
  · rw [shapeEffect_diags, hrun]
  · rw [readReg_shapeEffect, hrun]
    cases q <;> rfl
  · rw [shapeEffect_eq, finish_sp, FlagWrite.run_sp, hrun]
  · rw [memRead_shapeEffect, hrun]
    rfl

/-- An effect without a data write has the frame of a form that writes no register. -/
theorem registerFrame_of_nothing (hd : dataWrite sh s = .nothing) : RegisterFrame [] s (shapeEffect sh s) := by
  obtain ⟨hdiags, hregs, hmem⟩ := keepsMachine_of_emitted (s := s) (congrArg DataWrite.emitted hd)
  exact ⟨hregs, hmem, hdiags, aside_shapeEffect sh s⟩

/-- A diagnostic, and nothing else but the end of the instruction. -/
theorem exec_diag_of_shape {d : Diag} (hi : i.shape = sh) (hd : dataWrite sh s = .diag d) (hf : flagWrite sh s = .keep)
    (hpc : nextPc sh s = s.pc + BitVec.ofNat 16 sh.length) :
    ∃ t, exec i s = .next t ∧ Ends sh.length (cost sh s.cycles) (cost sh defaultCycles) s t ∧ t.diags = d :: s.diags ∧
      KeepsFlags s t ∧ KeepsRegs [] s t ∧ KeepsMemory s t ∧ Aside s t := by
  obtain ⟨hdiags, hregs, hmem⟩ := keepsMachine_of_emitted (s := s) (congrArg DataWrite.emitted hd)
  exact ⟨_, exec_of_shape hi s, ends_shapeEffect hpc, hdiags, keepsFlags_of_keep hf, hregs, hmem,
    aside_shapeEffect sh s⟩

end

/-! ### INVALID -/

/-- Whatever constructor has the shape INVALID, at whatever byte, runs as 42_control.md rule R146 says. -/
theorem runsAsInvalid_of_shape {i : Instr} {op : Byte} (hi : i.shape = .invalid op) (s : State) :
    RunsAsInvalid i op s :=
  ⟨encoded_of_shape hi (by simp [Shape.opcode]), exec_diag_of_shape hi rfl rfl rfl⟩

/-- The constructors with the shape INVALID are those of the main table and `invalidWithdrawn`. -/
theorem wellFormed_of_shape_invalid {i : Instr} {op : Byte} (hi : i.shape = .invalid op)
    (hne : i ≠ .invalidWithdrawn op) : i.wellFormed = true := by
  cases i with
  | invalidCbCbop cbop => cases hi
  | invalidWithdrawn op' => exact absurd (congrArg Instr.invalidWithdrawn (Shape.invalid.inj hi)) hne
  | _ => rfl

/-- A main-table constructor with the shape INVALID is the grid's entry at its byte, so the byte is one of the 139. -/
theorem isInvalidOpcode_of_shape {i : Instr} {op : Byte} (hi : i.shape = .invalid op) (hwf : i.wellFormed = true) :
    isInvalidOpcode op = true := by
  have hopcode : i.opcode = op := congrArg Shape.opcode hi
  have hentry : decodeMain op 0 0 = i := by
    rw [← hopcode]
    exact decodeMain_encoded i 0 0 hwf (by simp [hi, Shape.operandBytes])
  rw [← shape_decodeMain_invalid_iff op 0 0, hentry, hi]

/-! ### PC -/

theorem shapeEffect_pc (sh : Shape) (s : State) : (shapeEffect sh s).pc = nextPc sh s := by
  rw [shapeEffect_eq, finish_pc]

theorem nextPc_decodeMain (op b₁ b₂ : Byte) (s : State) :
    nextPc (decodeMain op b₁ b₂).shape s =
      if op = 0xC3 then word16 b₂ b₁ else if op = 0x76 then s.pc else s.pc + BitVec.ofNat 16 (instrLength op) := by
  revert op
  refine byte_cases fun n hn => ?_
  interval_cases n <;> rfl

/-- Neither JP nor HALT can be withdrawn, so a withdrawn byte is passed as an instruction of length 1 is. -/
theorem nextPc_fetchInstr (s : State) :
    nextPc (fetchInstr s).shape s =
      if fetchedOpcode s = 0xC3 then immediate16 s else if fetchedOpcode s = 0x76 then s.pc
      else s.pc + BitVec.ofNat 16 (fetchedLength s) := by
  obtain ⟨h, hi⟩ | ⟨h, hi⟩ := fetchInstr_cases s
  · have hsource : fetchedOpcode s ∉ sourceOpcodes := fun hmem => by simp [isWithdrawn_source _ _ hmem] at h
    have hjp : fetchedOpcode s ≠ 0xC3 := fun heq => hsource (heq ▸ by decide)
    have hhalt : fetchedOpcode s ≠ 0x76 := fun heq => hsource (heq ▸ by decide)
    rw [hi, if_neg hjp, if_neg hhalt, fetchedLength, lengthIn_withdrawn _ _ h]
    rfl
  · rw [hi, nextPc_decodeMain, fetchedLength, lengthIn_kept _ _ h, immediate16]

/-! ### The instruction at PC -/

theorem fetchedLength_bounds (s : State) : 0 < fetchedLength s ∧ fetchedLength s ≤ 3 := by
  have hlen : fetchedLength s = 1 ∨ fetchedLength s = 2 ∨ fetchedLength s = 3 := lengthIn_cases _ _
  omega

/-- The three bytes at PC hold an instruction under every table, the one that the step runs. -/
theorem decodeIn_bytesAt (s : State) : ∃ rest, decodeIn s.withdrawn (bytesAt s.pc s) = .ok (fetchInstr s, rest) := by
  obtain ⟨-, hle⟩ := fetchedLength_bounds s
  exact ⟨_, decodeIn_cons _ _ _ hle⟩

/-- The bytes a step consumes are the encoding of the instruction it runs. -/
theorem encode_fetchInstr (s : State) : encode (fetchInstr s) = ownBytes s := by
  obtain ⟨hpos, hle⟩ := fetchedLength_bounds s
  have hencode := encode_entryIn s.withdrawn (fetchedOpcode s) [memRead (s.pc + 1) s, memRead (s.pc + 2) s] hle
  exact hencode.trans (List.take_cons hpos).symm

end Sys2Proof.Machine

/-! PROOFS, the control family: the obligations settled. -/

namespace Sys2Proof.Machine

open Sys2Proof.Claim

/-- Settles O37: both constructors emit the one diagnostic, and write nothing else. -/
theorem prefixCbOnlyConsumesTwoBytes : Obligations.PrefixCbOnlyConsumesTwoBytes := by
  rintro i cbop s (hi | hi) <;> exact ⟨encoded_of_shape hi rfl, exec_diag_of_shape hi rfl rfl rfl⟩

/-- Settles O38: the constructor is the grid's INVALID entry at its byte. -/
theorem invalidOnlyAdvances : Obligations.InvalidOnlyAdvances := by
  intro i op s hi hne
  exact ⟨isInvalidOpcode_of_shape hi (wellFormed_of_shape_invalid hi hne), runsAsInvalid_of_shape hi s⟩

/-- Settles O39: a withdrawn byte has the shape INVALID. -/
theorem withdrawnByteRunsAsInvalid : Obligations.WithdrawnByteRunsAsInvalid :=
  fun _ s => runsAsInvalid_of_shape rfl s

/-- Settles O41: three bytes are enough for every opcode, every effect is a next state, and none touches the count. -/
theorem stepIsTotal : Obligations.StepIsTotal := by
  intro s
  obtain ⟨htotal, -⟩ := aside_shapeEffect (fetchInstr s).shape s
  have hlen : (fetchInstr s).shape.length = fetchedLength s := length_entryIn _ _ _ _
  obtain ⟨hpos, hle⟩ := fetchedLength_bounds s
  refine ⟨⟨_, decodeIn_bytesAt s⟩, _, step_eq s, ?_, ?_, ?_, rfl⟩
  · rwa [endStep_instrLen, shapeEffect_instrLen, hlen]
  · rwa [endStep_instrLen, shapeEffect_instrLen, hlen]
  · rw [endStep_totalCycles, endStep_instrCycles, htotal]

/-- Settles O46: the end of the step leaves the PC of the fetched instruction's effect. -/
theorem pcChangesInThreeWays : Obligations.PcChangesInThreeWays := by
  intro s t h
  rw [step_next h, endStep_pc, shapeEffect_pc, nextPc_fetchInstr]

/-- Settles O34: NOP writes no data and no flag. -/
theorem nopOnlyAdvances : Obligations.NopOnlyAdvances := by
  intro s
  exact ⟨encoded_of_shape rfl rfl, _, exec_of_shape rfl s, keepsFlags_of_keep rfl, ends_shapeEffect rfl,
    registerFrame_of_nothing rfl⟩

/-- Settles O35: JP a16 writes no data and no flag, and the PC after it is its operand. -/
theorem jumpAbsolute : Obligations.JumpAbsolute := by
  intro a16 s
  exact ⟨encoded_of_shape rfl rfl, _, exec_of_shape rfl s, shapeEffect_pc _ s, shapeEffect_instrLen _ s, rfl,
    keepsFlags_of_keep rfl, registerFrame_of_nothing rfl⟩

/-- Settles O36: HALT writes no data and no flag, and the PC after it is the PC before it. -/
theorem haltStaysOnItself : Obligations.HaltStaysOnItself := by
  intro s
  exact ⟨encoded_of_shape rfl rfl, _, exec_of_shape rfl s, shapeEffect_pc _ s, shapeEffect_instrLen _ s, rfl,
    congrArg Config.CycleTable.halt, keepsFlags_of_keep rfl, registerFrame_of_nothing rfl⟩

/-- Settles O40: the decoded instruction is the fetched one, and its encoding is the bytes it consumed. -/
theorem stepRunsTheDecodedInstruction : Obligations.StepRunsTheDecodedInstruction := by
  intro s t i rest hdecode hexec
  obtain ⟨rest', hfetch⟩ := decodeIn_bytesAt s
  obtain ⟨rfl, rfl⟩ := Prod.mk.inj (Except.ok.inj (hdecode.symm.trans hfetch))
  rw [step, hexec, encode_fetchInstr]
  rfl

end Sys2Proof.Machine

/-! PROOFS, the exception family (60_exceptions.md): the diagnostics a step adds, what disassembly and the trace show of
the fetched instruction, and two states that differ in IE alone. -/

namespace Sys2Proof.Machine

open Sys2Proof.Claim

/-! ### Diagnostics -/

/-- The diagnostics a data write adds. -/
def DataWrite.added : DataWrite → List Diag
  | .diag d => [d]
  | _ => []

theorem DataWrite.diags_run (d : DataWrite) (s : State) : (d.run s).diags = d.added ++ s.diags := by
  cases d <;> simp [run, added]

/-- Only the entries of 42_control.md rules R145 and R146 emit a diagnostic (60_exceptions.md rule R162). -/
theorem added_decodeMain (op b₁ b₂ : Byte) (s : State) :
    (dataWrite (decodeMain op b₁ b₂).shape s).added =
      if isInvalidOpcode op then [.invalidOpcode s.pc op]
      else if op = 0xCB then [.invalidOpcodeCb s.pc b₁] else [] := by
  revert op
  refine byte_cases fun n hn => ?_
  interval_cases n <;> rfl

/-- A withdrawn byte emits what a byte of rule R89's list does. -/
theorem added_fetchInstr (s : State) :
    (dataWrite (fetchInstr s).shape s).added =
      if isInvalidIn s.withdrawn (fetchedOpcode s) then [.invalidOpcode s.pc (fetchedOpcode s)]
      else if fetchedOpcode s = 0xCB then [.invalidOpcodeCb s.pc (memRead (s.pc + 1) s)] else [] := by
  obtain ⟨h, hi⟩ | ⟨h, hi⟩ := fetchInstr_cases s
  · rw [hi, isInvalidIn, h, Bool.or_true, if_pos rfl]
    rfl
  · rw [hi, added_decodeMain, isInvalidIn, h, Bool.or_false]

/-! ### The bytes of the fetched instruction -/

/-- The first `n` bytes from an address, by their offsets. -/
theorem take_bytesAt (n : Nat) (addr : Word) (s : State) :
    (bytesAt addr s).take n = ((List.range 3).take n).map fun k => memRead (addr + BitVec.ofNat 16 k) s := by
  rw [List.map_take]
  simp [bytesAt, List.range_succ]

theorem length_ownBytes (s : State) : (ownBytes s).length = fetchedLength s := by
  obtain ⟨-, hle⟩ := fetchedLength_bounds s
  exact List.length_take_of_le hle

theorem step_instrLen {s t : State} (h : step s = .next t) : t.instrLen = fetchedLength s := by
  rw [step_next h, endStep_instrLen, shapeEffect_instrLen]
  exact length_entryIn _ _ _ _

/-- No two instructions of a table have the same encoding. -/
theorem encode_injective_of_wellFormedIn {w : List Byte} {i j : Instr} (hi : i.wellFormedIn w = true)
    (hj : j.wellFormedIn w = true) (h : encode i = encode j) : i = j := by
  have hdecode := decodeIn_encode w i [] hi
  rw [h, decodeIn_encode w j [] hj] at hdecode
  exact (Prod.mk.inj (Except.ok.inj hdecode)).1.symm

/-- The fetched instruction depends on the bytes it consumes only, of the three that are read. -/
theorem fetchInstr_congr {s s' : State} (hw : s'.withdrawn = s.withdrawn) (h : ownBytes s' = ownBytes s) :
    fetchInstr s' = fetchInstr s := by
  refine encode_injective_of_wellFormedIn (w := s.withdrawn) ?_ (wellFormedIn_entryIn _ _ _ _) ?_
  · rw [← hw]
    exact wellFormedIn_entryIn _ _ _ _
  · rw [encode_fetchInstr, encode_fetchInstr, h]

/-! ### The trace -/

theorem snapshot_pc (pc₀ : Word) (own : List Byte) (s : State) : (snapshot pc₀ own s).pc = pc₀ := by
  unfold snapshot
  split <;> rfl

/-- Disassembly for the trace reads the bytes of the instruction at the address, and no others. -/
theorem rereadTrace_congr {s u : State} (hw : u.withdrawn = s.withdrawn) (hfree : u.freeCount = s.freeCount)
    (h : (bytesAt s.pc u).take (fetchedLength s) = ownBytes s) : rereadTrace s.pc u = rereadTrace s.pc s := by
  have hlen : lengthIn s.withdrawn (memRead s.pc s) = 1 ∨ lengthIn s.withdrawn (memRead s.pc s) = 2 ∨
    lengthIn s.withdrawn (memRead s.pc s) = 3 := lengthIn_cases _ _
  simp only [ownBytes, fetchedLength, fetchedOpcode, bytesAt] at h
  simp only [rereadTrace, disassembleAt, bytesAt, hw, hfree]
  obtain hn | hn | hn := hlen <;>
    simp only [hn, List.take_succ_cons, List.take_zero, List.cons.injEq, and_true] at h <;>
    simp only [hn, h, List.take_succ_cons, List.take_zero, Nat.reduceEqDiff, reduceIte]

/-- The operand slot, where the length calls for one (60_exceptions.md rule R160). -/
theorem rereadTrace_operand (s : State) :
    (fetchedLength s = 2 → (rereadTrace s.pc s).operand = word16 0 (memRead (s.pc + 1) s)) ∧
    (fetchedLength s = 3 → (rereadTrace s.pc s).operand = immediate16 s) := by
  refine ⟨fun hn => ?_, fun hn => if_pos hn⟩
  have hne : fetchedLength s ≠ 3 := by omega
  exact (if_neg hne).trans (if_pos hn)

/-- After the fetched instruction the trace shows it as it was fetched, or is free but for its address. -/
theorem snapshot_shapeEffect (sh : Shape) (s : State) :
    snapshot s.pc (ownBytes s) (shapeEffect sh s) =
      if (bytesAt s.pc (shapeEffect sh s)).take (fetchedLength s) = ownBytes s then rereadTrace s.pc s
      else overwrittenTrace s.pc s.freeCount := by
  obtain ⟨-, -, -, -, -, hw, hfree⟩ := aside_shapeEffect sh s
  rw [snapshot, length_ownBytes, hfree]
  split
  next h => exact rereadTrace_congr hw hfree h
  next => rfl

theorem trace_step {s t : State} (h : step s = .next t)
    (hown : (bytesAt s.pc t).take (fetchedLength s) = (bytesAt s.pc s).take (fetchedLength s)) :
    t.trace = rereadTrace s.pc s := by
  rw [step_next h] at hown ⊢
  rw [endStep_trace, snapshot_shapeEffect]
  exact if_pos hown

/-! ### Two states that differ in IE alone -/

theorem handlerOf_eq_interruptEnable_iff (a : Word) : handlerOf a = .interruptEnable ↔ a = 0xFFFF := by
  obtain ⟨-, -, hie⟩ := handlerOf_storage_iff a
  rw [hie, ← BitVec.toNat_inj]
  rfl

section
variable (v : Byte) (s : State)

@[simp] theorem readReg_withIe (r : Reg8) : readReg r (withIe v s) = readReg r s := by cases r <;> rfl

@[simp] theorem effAddr_withIe (m : AddrMode) : effAddr m (withIe v s) = effAddr m s := by cases m <;> rfl

@[simp] theorem withIe_pc : (withIe v s).pc = s.pc := rfl

/-- IE is read at 0xFFFF only (20_memory.md rule R60). -/
theorem memRead_withIe {a : Word} (ha : a ≠ 0xFFFF) : memRead a (withIe v s) = memRead a s := by
  rw [Ne, ← handlerOf_eq_interruptEnable_iff] at ha
  simp only [memRead, Bus.read]
  cases h : handlerOf a with
  | interruptEnable => exact absurd h ha
  | _ => rfl

/-- Nor does a write elsewhere touch it. -/
theorem memWrite_withIe {a : Word} (b : Byte) (ha : a ≠ 0xFFFF) :
    memWrite a b (withIe v s) = withIe v (memWrite a b s) := by
  rw [Ne, ← handlerOf_eq_interruptEnable_iff] at ha
  simp only [memWrite, Bus.write]
  cases h : handlerOf a with
  | interruptEnable => exact absurd h ha
  | _ => rfl

/-- Bytes that end below 0xFFFF do not include IE. -/
theorem take_bytesAt_withIe {n : Nat} {addr : Word} (h : addr.toNat + n ≤ 0xFFFF) :
    (bytesAt addr (withIe v s)).take n = (bytesAt addr s).take n := by
  rw [take_bytesAt, take_bytesAt]
  refine List.map_congr_left fun k hk => memRead_withIe v s fun heq => ?_
  have hlt : k < n := by
    rw [List.take_range, List.mem_range] at hk
    omega
  have hnat := congrArg BitVec.toNat heq
  rw [BitVec.toNat_add, BitVec.toNat_ofNat] at hnat
  change (addr.toNat + k % 65536) % 65536 = 65535 at hnat
  omega

end

/-- The addressing mode of the byte an instruction reads as data (20_memory.md rule R64). -/
def loadMode : Shape → Option AddrMode
  | .incAtHl => some .atHl
  | .addAAtHl => some .atHl
  | .subAtHl => some .atHl
  | .ldRAtHl _ => some .atHl
  | .ldAAtRr .bc => some .atBc
  | .ldAAtRr _ => some .atDe
  | .ldAAtA16 a16 => some (.absolute a16)
  | _ => none

/-- The table of 20_memory.md rule R64, opcode by opcode. -/
theorem loadMode_decodeMain (op b₁ b₂ : Byte) :
    loadMode (decodeMain op b₁ b₂).shape =
      if readsAtHl.contains op then some .atHl
      else if [0x0A#8].contains op then some .atBc
      else if [0x1A#8].contains op then some .atDe
      else if [0xFA#8].contains op then some (.absolute (word16 b₂ b₁))
      else none := by
  revert op
  refine byte_cases fun n hn => ?_
  interval_cases n <;> rfl

/-- The fetched instruction reads data at the address that its opcode and addressing mode give. -/
theorem loadMode_fetchInstr (s : State) :
    (loadMode (fetchInstr s).shape).map (effAddr · s) = loadAddress s := by
  obtain ⟨h, hi⟩ | ⟨h, hi⟩ := fetchInstr_cases s
  · simp only [loadAddress, runs, h, hi, Bool.not_true, Bool.and_false]
    rfl
  · simp only [loadAddress, runs, h, hi, Bool.not_false, Bool.and_true, loadMode_decodeMain, apply_ite (Option.map _)]
    rfl

section
variable (v : Byte) (s : State)

theorem dataWrite_withIe {sh : Shape} (h : ∀ m, loadMode sh = some m → readAt m (withIe v s) = readAt m s) :
    dataWrite sh (withIe v s) = dataWrite sh s := by
  cases sh with
  | incAtHl | addAAtHl | subAtHl | ldRAtHl | ldAAtA16 =>
    simp only [dataWrite, h _ rfl, readReg_withIe, effAddr_withIe]
  | ldAAtRr p => cases p <;> simp only [dataWrite, h _ rfl]
  | ldAtRrA p => cases p <;> simp only [dataWrite, readReg_withIe, effAddr_withIe]
  | _ => simp only [dataWrite, readReg_withIe, effAddr_withIe, withIe_pc]

theorem flagWrite_withIe {sh : Shape} (h : ∀ m, loadMode sh = some m → readAt m (withIe v s) = readAt m s) :
    flagWrite sh (withIe v s) = flagWrite sh s := by
  cases sh with
  | incAtHl | addAAtHl | subAtHl => simp only [flagWrite, h _ rfl, readReg_withIe]
  | _ => simp only [flagWrite, readReg_withIe]

theorem DataWrite.run_withIe {d : DataWrite} (h : d.storeAddr ≠ some 0xFFFF) :
    d.run (withIe v s) = withIe v (d.run s) := by
  cases d with
  | byte a b => exact memWrite_withIe v s b fun heq => h (congrArg some heq)
  | reg r b => cases r <;> rfl
  | pair p w => cases p <;> rfl
  | _ => rfl

theorem FlagWrite.run_withIe (w : FlagWrite) : w.run (withIe v s) = withIe v (w.run s) := by
  cases w <;> rfl

/-- An effect that neither reads nor stores data at 0xFFFF is the same whatever IE holds. -/
theorem shapeEffect_withIe {sh : Shape} (hload : (loadMode sh).map (effAddr · s) ≠ some 0xFFFF)
    (hstore : (dataWrite sh s).storeAddr ≠ some 0xFFFF) :
    shapeEffect sh (withIe v s) = withIe v (shapeEffect sh s) := by
  have hread : ∀ m, loadMode sh = some m → readAt m (withIe v s) = readAt m s := by
    intro m hm
    rw [readAt, effAddr_withIe]
    refine memRead_withIe v s fun heq => hload ?_
    rw [hm, Option.map_some, heq]
  have hpc : nextPc sh (withIe v s) = nextPc sh s := by cases sh <;> rfl
  rw [shapeEffect_eq, shapeEffect_eq, dataWrite_withIe v s hread, flagWrite_withIe v s hread, hpc,
    DataWrite.run_withIe v s hstore, FlagWrite.run_withIe]
  rfl

end

/-! ### A step that keeps off IE -/

section
variable (v : Byte) {s : State} (hfetch : s.pc.toNat + fetchedLength s ≤ 0xFFFF)
include hfetch

theorem fetchedOpcode_withIe : fetchedOpcode (withIe v s) = fetchedOpcode s := by
  obtain ⟨hpos, -⟩ := fetchedLength_bounds s
  have hpc : s.pc.toNat ≠ 0xFFFF := by omega
  exact memRead_withIe v s fun heq => hpc (congrArg BitVec.toNat heq)

theorem fetchedLength_withIe : fetchedLength (withIe v s) = fetchedLength s :=
  congrArg (lengthIn s.withdrawn) (fetchedOpcode_withIe v hfetch)

theorem ownBytes_withIe : ownBytes (withIe v s) = ownBytes s := by
  rw [ownBytes, fetchedLength_withIe v hfetch]
  exact take_bytesAt_withIe v s hfetch

theorem fetchInstr_withIe : fetchInstr (withIe v s) = fetchInstr s :=
  fetchInstr_congr rfl (ownBytes_withIe v hfetch)

theorem rereadTrace_withIe : rereadTrace s.pc (withIe v s) = rereadTrace s.pc s :=
  rereadTrace_congr rfl rfl (take_bytesAt_withIe v s hfetch)

/-- The trace re-reads the instruction's own bytes, which do not include IE. -/
theorem snapshot_withIe {sh : Shape} (heffect : shapeEffect sh (withIe v s) = withIe v (shapeEffect sh s)) :
    snapshot s.pc (ownBytes s) (withIe v (shapeEffect sh s)) = snapshot s.pc (ownBytes s) (shapeEffect sh s) := by
  have hsnapshot := snapshot_shapeEffect sh (withIe v s)
  rw [heffect, ownBytes_withIe v hfetch, fetchedLength_withIe v hfetch, withIe_pc, take_bytesAt_withIe v _ hfetch,
    rereadTrace_withIe v hfetch] at hsnapshot
  exact hsnapshot.trans (snapshot_shapeEffect sh s).symm

/-- 60_exceptions.md rule R151: a step that keeps off 0xFFFF answers the same whatever IE holds. -/
theorem step_withIe {t : State} (hload : loadAddress s ≠ some 0xFFFF) (hstore : storeAddress s ≠ some 0xFFFF)
    (h : step s = .next t) : step (withIe v s) = .next (withIe v t) := by
  have heffect : shapeEffect (fetchInstr s).shape (withIe v s) = withIe v (shapeEffect (fetchInstr s).shape s) := by
    refine shapeEffect_withIe v s ?_ ?_
    · rwa [loadMode_fetchInstr]
    · rwa [storeAddr_fetchInstr]
  rw [step_next h, step_eq, fetchedOpcode_withIe v hfetch, ownBytes_withIe v hfetch, fetchInstr_withIe v hfetch,
    heffect, withIe_pc, endStep, snapshot_withIe v hfetch heffect]
  rfl

end

end Sys2Proof.Machine

/-! PROOFS, the exception family: the obligations settled. -/

namespace Sys2Proof.Machine

open Sys2Proof.Claim

/-- Settles O52: a step that keeps off 0xFFFF answers the same whatever IE holds, and the IE of its answer is read off
where IE is replaced by itself. -/
theorem interruptEnableByteIsInert : Obligations.InterruptEnableByteIsInert := by
  intro s t v hfetch hload hstore h
  refine ⟨?_, step_withIe v hfetch hload hstore h⟩
  have hself : step s = .next (withIe s.bus.ie t) := step_withIe s.bus.ie hfetch hload hstore h
  exact congrArg (fun u => u.bus.ie) (Host.Outcome.next.inj (h.symm.trans hself))

/-- Settles O55: the diagnostics a step adds are those of the fetched instruction's data write. -/
theorem diagnosticsExactlyOnInvalid : Obligations.DiagnosticsExactlyOnInvalid := by
  intro s t h
  rw [step_next h, endStep_diags, shapeEffect_diags, DataWrite.diags_run, added_fetchInstr]
  split
  · rfl
  · split <;> rfl

/-- Settles O56: disassembly reads the length of the opcode at PC and that many bytes, which are the encoding of the
fetched instruction. -/
theorem disassemblyAgreesWithExecution : Obligations.DisassemblyAgreesWithExecution := by
  intro s t h
  exact ⟨(step_instrLen h).symm, (encode_fetchInstr s).symm⟩

/-- Settles O57: where the instruction left its own bytes, disassembling again gives what was fetched. -/
theorem traceShowsTheExecutedInstruction : Obligations.TraceShowsTheExecutedInstruction := by
  intro s t h
  refine ⟨?_, fun hown => ?_⟩
  · rw [step_next h]
    exact snapshot_pc _ _ _
  · rw [trace_step h hown, step_instrLen h, encode_fetchInstr]
    exact ⟨rfl, rfl, rfl, length_ownBytes s, rereadTrace_operand s⟩

end Sys2Proof.Machine

/-! PROOFS, the reset and hazard family (70_reset_and_hazards.md): the RAM after a reset, and what any number of steps at a
HALT leaves. -/

namespace Sys2Proof.Machine

open Sys2Proof.Claim

/-! ### Reset -/

/-- A reset clears both RAM arrays, whatever was in them. -/
theorem memRead_systemReset_ram (pcInit : Word) (s : State) (a : Word)
    (ha : (0xC000 ≤ a.toNat ∧ a.toNat ≤ 0xFDFF) ∨ (0xFF80 ≤ a.toNat ∧ a.toNat ≤ 0xFFFE)) :
    memRead a (systemReset pcInit s) = 0x00 :=
  memRead_launch_ram { Params.default with cart := s.bus.cart, ieInit := s.bus.ie } a ha

/-! ### The machine a program sees -/

theorem sameMachine_refl (s : State) : SameMachine s s :=
  ⟨fun _ => rfl, rfl, rfl, rfl, fun _ => rfl, rfl⟩

theorem sameMachine_trans {s t u : State} (h : SameMachine s t) (h' : SameMachine t u) : SameMachine s u := by
  obtain ⟨hreg, hf, hsp, hpc, hmem, hcart⟩ := h
  obtain ⟨hreg', hf', hsp', hpc', hmem', hcart'⟩ := h'
  exact ⟨fun q => (hreg' q).trans (hreg q), hf'.trans hf, hsp'.trans hsp, hpc'.trans hpc,
    fun b => (hmem' b).trans (hmem b), hcart'.trans hcart⟩

/-- Whether a state is final is read off PC and memory. -/
theorem isFinal_of_sameMachine {s t : State} (h : SameMachine s t) : t.isFinal = s.isFinal := by
  obtain ⟨-, -, -, hpc, hmem, -⟩ := h
  rw [State.isFinal, State.isFinal, hpc, hmem]

/-! ### A step at a HALT -/

theorem isFinal_iff (s : State) : s.isFinal = true ↔ fetchedOpcode s = 0x76 := beq_iff_eq

/-- The source names 0x76, so it is HALT under every decode table. -/
theorem fetchInstr_of_isFinal {s : State} (h : s.isFinal = true) : fetchInstr s = .halt := by
  have hop : fetchedOpcode s = 0x76 := (isFinal_iff s).mp h
  obtain ⟨hw, -⟩ | ⟨-, hi⟩ := fetchInstr_cases s
  · rw [hop, isWithdrawn_source _ _ (by decide)] at hw
    cases hw
  · rw [hi, hop]
    rfl

theorem step_of_isFinal {s : State} (h : s.isFinal = true) :
    step s = .next (endStep s.pc (fetchedOpcode s) (ownBytes s) (shapeEffect .halt s)) := by
  rw [step_eq, fetchInstr_of_isFinal h]
  rfl

/-! ### Any number of steps at a HALT -/

/-- What `n` steps at a HALT leave of `s`: the machine, the diagnostics and CYCLES, with `n` times the cost of HALT added
to the count. -/
structure AfterHalts (n : Nat) (s t : State) : Prop where
  same : SameMachine s t
  totalCycles : t.totalCycles = s.totalCycles + n * s.cycles.halt
  diags : t.diags = s.diags
  cycles : t.cycles = s.cycles

theorem afterHalts_zero (s : State) : AfterHalts 0 s s where
  same := sameMachine_refl s
  totalCycles := by rw [Nat.zero_mul, Nat.add_zero]
  diags := rfl
  cycles := rfl

/-- HALT writes no data, no flag and its own address into PC (42_control.md rule R143), so all its step adds is its cost,
the trace and the report. -/
theorem afterHalts_endStep (op : Byte) (own : List Byte) (s : State) :
    AfterHalts 1 s (endStep s.pc op own (shapeEffect .halt s)) where
  same := ⟨fun q => (readReg_endStep q _ _ _ _).trans (readReg_finish q _ _ _ s), rfl, rfl, rfl, fun _ => rfl, rfl⟩
  totalCycles := by
    rw [Nat.one_mul]
    rfl
  diags := rfl
  cycles := rfl

theorem afterHalts_succ {n : Nat} {s u t : State} (h : AfterHalts 1 s u) (h' : AfterHalts n u t) :
    AfterHalts (n + 1) s t where
  same := sameMachine_trans h.same h'.same
  totalCycles := by rw [h'.totalCycles, h.totalCycles, h.cycles, Nat.add_assoc, ← Nat.add_mul, Nat.add_comm 1 n]
  diags := h'.diags.trans h.diags
  cycles := h'.cycles.trans h.cycles

/-- A run whose first step answers `u` goes on from `u`. -/
theorem run_succ_of_step (M : Host.Core) {s u : M.State} (n : Nat) (h : M.step s = .next u) :
    M.run (n + 1) s = M.run n u := by
  rw [Host.Core.run, h]

/-- A run from a final state never gets away from its HALT. -/
theorem run_of_isFinal (n : Nat) {s : State} (h : s.isFinal = true) :
    ∃ t, core.run n s = .next t ∧ AfterHalts n s t := by
  induction n generalizing s with
  | zero => exact ⟨s, rfl, afterHalts_zero s⟩
  | succ n ih =>
    have hfirst := afterHalts_endStep (fetchedOpcode s) (ownBytes s) s
    obtain ⟨t, hrun, hrest⟩ := ih ((isFinal_of_sameMachine hfirst.same).trans h)
    exact ⟨t, (run_succ_of_step core n (step_of_isFinal h)).trans hrun, afterHalts_succ hfirst hrest⟩

/-! ### The obligations settled -/

/-- Settles O54, by induction on the number of steps: each is a HALT that leaves the state final. -/
theorem finalStateIsAFixedPoint : Obligations.FinalStateIsAFixedPoint := by
  intro n s hfinal
  obtain ⟨t, hrun, ht⟩ := run_of_isFinal n hfinal
  exact ⟨t, hrun, ht.same, (isFinal_of_sameMachine ht.same).trans hfinal, ht.totalCycles, ht.diags⟩

/-- Settles O45: a reset is a launch with the IE, the cartridge and the decode table of the state, so the RAM arrays are
empty. -/
theorem resetRestoresBootStateKeepsIeAndCart : Obligations.ResetRestoresBootStateKeepsIeAndCart := by
  intro pcInit s
  refine ⟨rfl, rfl, rfl, rfl, rfl, rfl, rfl, rfl, rfl, fun a h h' => ?_, fun a h h' => ?_, rfl, rfl, rfl⟩
  · exact memRead_systemReset_ram pcInit s a (.inl ⟨h, h'⟩)
  · exact memRead_systemReset_ram pcInit s a (.inr ⟨h, h'⟩)

/-- Settles O58: the costs and the defaults are the definitions' own values. -/
theorem cycleTableDefaults : Obligations.CycleTableDefaults := ⟨rfl, rfl, rfl⟩

end Sys2Proof.Machine

/-! PROOFS, the placing of an instruction for the next fetch: the model's own operation (log entry 25). A placed byte is
read back where the address has storage, three addresses in a row are three bytes of storage, and PC is moved to such
addresses. -/

namespace Sys2Proof.Machine

open Sys2Proof.Claim

/-! ### A byte patched into the cartridge -/

theorem getD_patchBytes (bytes : List Byte) (k : Nat) (v : Byte) (j : Nat) :
    (patchBytes bytes k v).getD j Config.fill = if j = k then v else bytes.getD j Config.fill := by
  induction bytes, k, v using patchBytes.induct generalizing j with
  | case1 v => cases j <;> simp [patchBytes]
  | case2 k v ih => cases j with
    | zero => simp [patchBytes]
    | succ j => simpa [patchBytes] using ih j
  | case3 b bytes v => cases j <;> simp [patchBytes]
  | case4 b bytes k v ih => cases j with
    | zero => simp [patchBytes]
    | succ j => simpa [patchBytes] using ih j

/-- No cartridge reads as an empty one (20_memory.md rule R52). -/
theorem cartRead_eq_getD (cart : Option (List Byte)) (i : Nat) :
    cartRead cart i = (cart.getD []).getD i Config.fill := by
  cases cart <;> rfl

theorem cartRead_patchBytes (cart : Option (List Byte)) (k : Nat) (v : Byte) (j : Nat) :
    cartRead (some (patchBytes (cart.getD []) k v)) j = if j = k then v else cartRead cart j := by
  rw [cartRead_eq_getD, cartRead_eq_getD, Option.getD_some, getD_patchBytes]

theorem handlerOf_ne_cartridge {a : Word} (h : ¬ a.toNat ≤ 0x7FFF) (k : Nat) : handlerOf a ≠ .cartridge k := by
  rcases handlerOf_rows a with ⟨h', -⟩ | ⟨-, -, h'⟩ | ⟨-, -, h'⟩ | ⟨-, -, h'⟩ | ⟨-, -, h'⟩ | ⟨-, -, h'⟩ | ⟨-, -, h'⟩ |
    ⟨-, -, h'⟩ | ⟨-, -, h'⟩ | ⟨-, h'⟩
  · exact absurd h' h
  all_goals simp [h']

/-- The cartridge is read in its own range only (20_memory.md rule R51). -/
theorem memRead_connectCartridge (cart : Option (List Byte)) (s : State) {b : Word} (hb : ¬ b.toNat ≤ 0x7FFF) :
    memRead b (connectCartridge cart s) = memRead b s := by
  unfold memRead Bus.read
  cases h : handlerOf b with
  | cartridge k => exact absurd h (handlerOf_ne_cartridge hb k)
  | _ => rfl

/-! ### Placing one byte -/

theorem placeByte_cartridge {a : Word} (v : Byte) (s : State) (h : a.toNat ≤ 0x7FFF) :
    placeByte a v s = connectCartridge (some (patchBytes (s.bus.cart.getD []) a.toNat v)) s := by
  rw [placeByte, handlerOf_cartridge a h]
  rfl

theorem placeByte_of_not_cartridge {a : Word} (v : Byte) (s : State) (h : ¬ a.toNat ≤ 0x7FFF) :
    placeByte a v s = memWrite a v s := by
  unfold placeByte
  cases h' : handlerOf a with
  | cartridge k => exact absurd h' (handlerOf_ne_cartridge h k)
  | _ => rfl

@[simp] theorem placeByte_pc (a : Word) (v : Byte) (s : State) : (placeByte a v s).pc = s.pc := by
  by_cases h : a.toNat ≤ 0x7FFF
  · rw [placeByte_cartridge v s h, connectCartridge]
  · rw [placeByte_of_not_cartridge v s h, memWrite_pc]

@[simp] theorem placeByte_withdrawn (a : Word) (v : Byte) (s : State) : (placeByte a v s).withdrawn = s.withdrawn := by
  by_cases h : a.toNat ≤ 0x7FFF
  · rw [placeByte_cartridge v s h, connectCartridge]
  · rw [placeByte_of_not_cartridge v s h, memWrite_withdrawn]

theorem inv_placeByte (a : Word) (v : Byte) {s : State} (hs : s.Inv) : (placeByte a v s).Inv := by
  by_cases h : a.toNat ≤ 0x7FFF
  · rw [placeByte_cartridge v s h]
    exact { hs with }
  · rw [placeByte_of_not_cartridge v s h]
    obtain ⟨hw, hw', hh, hh'⟩ := s.bus.write_wf a v hs.wramWf hs.wramWithin hs.hramWf hs.hramWithin
    exact ⟨hs.flagLow, hw, hw', hh, hh', hs.instrLenLe⟩

/-- A stub alone has no storage: every other address is the cartridge's, or one where writes land. -/
theorem writable_of_hasStorage {a : Word} (ha : hasStorage a = true) (h : ¬ a.toNat ≤ 0x7FFF) : Writable a := by
  by_contra hw
  have hlt := a.isLt
  unfold Writable at hw
  obtain h' | h' | h' | h' | h' := handlerOf_stub a (by omega) <;> simp [hasStorage, h'] at ha

theorem memRead_placeByte_same {a : Word} (v : Byte) {s : State} (hs : s.Inv) (ha : hasStorage a = true) :
    memRead a (placeByte a v s) = v := by
  by_cases h : a.toNat ≤ 0x7FFF
  · rw [placeByte_cartridge v s h, memRead_cartridge _ a h, connectCartridge, cartRead_patchBytes, if_pos rfl]
  · rw [placeByte_of_not_cartridge v s h]
    exact memRead_memWrite_sameByte v hs (writable_of_hasStorage ha h) (.inl rfl)

theorem memRead_placeByte_other {a b : Word} (v : Byte) (s : State) (hab : ¬ SameByte a b) :
    memRead b (placeByte a v s) = memRead b s := by
  by_cases h : a.toNat ≤ 0x7FFF
  · rw [placeByte_cartridge v s h]
    by_cases hb : b.toNat ≤ 0x7FFF
    · have hne : b.toNat ≠ a.toNat := fun heq => hab (.inl (BitVec.eq_of_toNat_eq heq))
      rw [memRead_cartridge _ b hb, memRead_cartridge _ b hb, connectCartridge, cartRead_patchBytes, if_neg hne]
    · exact memRead_connectCartridge _ s hb
  · rw [placeByte_of_not_cartridge v s h]
    exact memRead_memWrite_other s v fun hw => hab hw.2

/-! ### Placing three bytes in a row -/

@[simp] theorem placeBytes_pc (a : Word) (bytes : List Byte) (s : State) : (placeBytes a bytes s).pc = s.pc := by
  induction bytes generalizing a s with
  | nil => rfl
  | cons v bytes ih => rw [placeBytes, ih, placeByte_pc]

@[simp] theorem placeBytes_withdrawn (a : Word) (bytes : List Byte) (s : State) :
    (placeBytes a bytes s).withdrawn = s.withdrawn := by
  induction bytes generalizing a s with
  | nil => rfl
  | cons v bytes ih => rw [placeBytes, ih, placeByte_withdrawn]

/-- Two addresses of one byte are 0x2000 apart (20_memory.md rule R56), so nearer ones are two bytes, also where the
addresses wrap. -/
theorem not_sameByte_add (a k : Word) (hpos : 0 < k.toNat) (hlt : k.toNat < 0x2000) : ¬ SameByte (a + k) a := by
  have ha := a.isLt
  unfold SameByte
  rw [← BitVec.toNat_inj, BitVec.toNat_add]
  omega

/-- Each byte is read back, as the bytes placed after it are other bytes of storage. -/
theorem bytesAt_placeBytes {a : Word} (b₀ b₁ b₂ : Byte) {s : State} (hs : s.Inv) (h₀ : hasStorage a = true)
    (h₁ : hasStorage (a + 1) = true) (h₂ : hasStorage (a + 2) = true) :
    bytesAt a (placeBytes a [b₀, b₁, b₂] s) = [b₀, b₁, b₂] := by
  have hadd : a + 1 + 1 = a + 2 := BitVec.add_assoc a 1 1
  have hs₁ := inv_placeByte a b₀ hs
  have hs₂ := inv_placeByte (a + 1) b₁ hs₁
  have h₀₁ : ¬ SameByte (a + 1) a := not_sameByte_add a 1 (by decide) (by decide)
  have h₀₂ : ¬ SameByte (a + 2) a := not_sameByte_add a 2 (by decide) (by decide)
  have h₁₂ : ¬ SameByte (a + 2) (a + 1) := hadd ▸ not_sameByte_add (a + 1) 1 (by decide) (by decide)
  simp only [placeBytes, hadd, bytesAt]
  rw [memRead_placeByte_other b₂ _ h₀₂, memRead_placeByte_other b₁ _ h₀₁, memRead_placeByte_same b₀ hs h₀,
    memRead_placeByte_other b₂ _ h₁₂, memRead_placeByte_same b₁ hs₁ h₁, memRead_placeByte_same b₂ hs₂ h₂]

/-! ### Placing an instruction at PC -/

/-- Where PC points into a stub, it is moved to 0x0100 in the cartridge. -/
theorem hasStorage_placeablePc (s : State) :
    hasStorage (placeablePc s) = true ∧ hasStorage (placeablePc s + 1) = true ∧
    hasStorage (placeablePc s + 2) = true := by
  unfold placeablePc
  split
  · next h =>
    rw [Bool.and_eq_true, Bool.and_eq_true, and_assoc] at h
    exact h
  · decide

theorem isWithdrawn_assignByte (op : Byte) (w : List Byte) : isWithdrawn (assignByte op w) op = false := by
  rw [Bool.eq_false_iff, Ne, isWithdrawn_iff]
  rintro ⟨hmem, -, -⟩
  simp [assignByte] at hmem

theorem placeAtPc_pc (bytes : List Byte) (s : State) : (placeAtPc bytes s).pc = placeablePc s := placeBytes_pc _ _ _

theorem placeAtPc_withdrawn (bytes : List Byte) (s : State) :
    (placeAtPc bytes s).withdrawn = assignByte (bytes.headD 0) s.withdrawn := placeBytes_withdrawn _ _ _

theorem bytesAt_placeAtPc (b₀ b₁ b₂ : Byte) {s : State} (hs : s.Inv) :
    bytesAt (placeAtPc [b₀, b₁, b₂] s).pc (placeAtPc [b₀, b₁, b₂] s) = [b₀, b₁, b₂] := by
  obtain ⟨h₀, h₁, h₂⟩ := hasStorage_placeablePc s
  rw [placeAtPc_pc, placeAtPc]
  exact bytesAt_placeBytes b₀ b₁ b₂ { hs with } h₀ h₁ h₂

/-- The fetched instruction is the main table's entry where the decode table assigns the opcode. -/
theorem fetchInstr_of_bytesAt {s : State} {b₀ b₁ b₂ : Byte} (hbytes : bytesAt s.pc s = [b₀, b₁, b₂])
    (hkept : isWithdrawn s.withdrawn b₀ = false) : fetchInstr s = decodeMain b₀ b₁ b₂ := by
  simp only [bytesAt, List.cons.injEq, and_true] at hbytes
  obtain ⟨h₀, h₁, h₂⟩ := hbytes
  rw [fetchInstr, h₀, h₁, h₂, entryIn_kept _ _ _ _ hkept]

theorem fetchInstr_placeAtPc (b₀ b₁ b₂ : Byte) {s : State} (hs : s.Inv) :
    fetchInstr (placeAtPc [b₀, b₁, b₂] s) = decodeMain b₀ b₁ b₂ := by
  refine fetchInstr_of_bytesAt (bytesAt_placeAtPc b₀ b₁ b₂ hs) ?_
  rw [placeAtPc_withdrawn]
  exact isWithdrawn_assignByte b₀ s.withdrawn

theorem tableBytes_eq_three (nbits w : Nat) : ∃ b₀ b₁ b₂, tableBytes nbits w = [b₀, b₁, b₂] := by
  unfold tableBytes
  split
  · exact ⟨_, _, _, rfl⟩
  · exact ⟨_, _, _, rfl⟩

/-- Settles O59: a table word is three bytes, placed where they are read back, with their opcode assigned. -/
theorem placedWordIsFetched : Obligations.PlacedWordIsFetched := by
  intro s nbits w hs
  rw [State.withFetchWord]
  refine ⟨?_, fun b₀ b₁ b₂ hword => ?_⟩
  · obtain ⟨b₀, b₁, b₂, hword⟩ := tableBytes_eq_three nbits w
    rw [hword]
    exact bytesAt_placeAtPc b₀ b₁ b₂ hs
  · rw [hword]
    exact fetchInstr_placeAtPc b₀ b₁ b₂ hs

end Sys2Proof.Machine
